-- ==== Sys2Proof/Word.lean ====
section
/-! DEFINITION. The byte and the Ethernet address, the two things the manual itself handles as bits. -/

namespace Sys2Proof

/-- One byte of the command link, of a relay frame, of a picture or of a card. -/
abbrev Byte := BitVec 8

/-- A 48-bit Ethernet address; its most significant byte is the one sent first on the wire (R224). -/
abbrev Addr := BitVec 48

end Sys2Proof
end

