-- ==== Sys2Proof/Machine/Checks.lean ====
section
/-! DEFINITION. The two checks: the CRC-16 of command and reply frames (R220) and the CRC-32 of relay frames (R158),
which the settings store's image carries too (R216). -/

namespace Sys2Proof.Machine
open Sys2Proof

/-- One bit of the CRC-16: most significant bit first, polynomial 0x1021 (R220). -/
def crc16Bit (c : BitVec 16) : BitVec 16 := if c.msb then (c <<< 1) ^^^ 0x1021#16 else c <<< 1

/-- One byte of the CRC-16 (R220). -/
def crc16Byte (c : BitVec 16) (b : Byte) : BitVec 16 :=
  Nat.repeat crc16Bit 8 (c ^^^ (b.zeroExtend 16 <<< 8))

/-- The CRC-16 of R220: initial value 0xFFFF, no reflection, no inversion. -/
def crc16 (bs : List Byte) : BitVec 16 := bs.foldl crc16Byte 0xFFFF#16

/-- One bit of the reflected CRC-32 (R158). -/
def crc32Bit (c : BitVec 32) : BitVec 32 :=
  if c.getLsbD 0 then (c >>> 1) ^^^ 0xEDB88320#32 else c >>> 1

/-- One byte of the CRC-32 (R158). -/
def crc32Byte (c : BitVec 32) (b : Byte) : BitVec 32 := Nat.repeat crc32Bit 8 (c ^^^ b.zeroExtend 32)

/-- The frame check sequence of R158: polynomial 0x04C11DB7 reflected, initial value all ones, inverted. -/
def crc32 (bs : List Byte) : BitVec 32 := ~~~ (bs.foldl crc32Byte 0xFFFFFFFF#32)

end Sys2Proof.Machine
end

