-- ==== Sys2Proof/Syntax.lean ====
section
/-! DEFINITION. The names the manual gives its alternatives, and `Instr`: one constructor for each row of the
opcode table, a host command or an event at a port or a timer.

An enumerated field of a host command is an `Option`: `none` stands for any byte outside the field's set, which
is what BAD_VALUE answers (R223). An optional number of a host command (R224) is an `Option (Option Nat)`: the
outer `none` is a presence byte outside 0 and 1, the inner `none` is an absent value. Numbers are plain naturals;
`Instr.wf` says which of them the field's width can carry. -/

namespace Sys2Proof

/-- The two card slots (R130). -/
inductive Slot where
  | a | b
  deriving DecidableEq, Repr

/-- The kinds of picture, in the order that gives them their codes (R180, R224). -/
inductive Pict where
  | thumb | rendition | raw
  deriving DecidableEq, Repr

/-- What a station pull asks for (R157). -/
inductive PullKind where
  | list
  | pict (k : Pict)
  deriving DecidableEq, Repr

/-- The power states (R210). -/
inductive PowerState where
  | active | standby | dormant
  deriving DecidableEq, Repr

/-- The bit depths of a raw sample (R38). -/
inductive Depth where
  | d12 | d14
  deriving DecidableEq, Repr

/-- The drive modes (R39). -/
inductive DriveMode where
  | single | burst | precapture
  deriving DecidableEq, Repr

/-- The autofocus modes (R78). -/
inductive AfMode where
  | off | single | continuous
  deriving DecidableEq, Repr

/-- The actions of RELEASE (R43). -/
inductive ReleaseAction where
  | half | full | stop
  deriving DecidableEq, Repr

/-- The actions TAG_SHOT applies to a flag (R28). -/
inductive TagAction where
  | keep | set | clear
  deriving DecidableEq, Repr

/-- The white-balance modes (R121). -/
inductive WbMode where
  | fixed | autoGrey
  deriving DecidableEq, Repr

/-- The scales of a rendition (R121). -/
inductive Scale where
  | half | quarter
  deriving DecidableEq, Repr

/-- The card modes (R143). -/
inductive CardMode where
  | mirror | split | overflow
  deriving DecidableEq, Repr

/-- The card contents (R143). -/
inductive CardContent where
  | raw | rawAndRendition
  deriving DecidableEq, Repr

/-- The matches of a send rule (R192). -/
inductive RuleMatch where
  | none | all | picked | confirmed | urgent
  deriving DecidableEq, Repr

/-- The expiry policies of an item (R180). -/
inductive Policy where
  | keep | drop
  deriving DecidableEq, Repr

/-- The answers of ANSWER_PULL (R201). -/
inductive PullAnswer where
  | accept | refuse
  deriving DecidableEq, Repr

/-- A report route (R228). -/
inductive Route where
  | off | line0 | line1
  deriving DecidableEq, Repr

/-- The line selector of READ_REPORTS (R227). -/
inductive LineSel where
  | any | line0 | line1
  deriving DecidableEq, Repr

/-- The parts of a status reply (R230). -/
inductive StatusPart where
  | link | supervisor | capture | measurement | focus | development | cards | tetherLink | tetherQueue
  deriving DecidableEq, Repr

/-- The report kinds, in the order of their codes 0x01 to 0x1C (R228). -/
inductive ReportKind where
  | shotCommitted | shotBuffered | shotRetired | stallBegin | stallEnd | burstEnd | flashMissed
  | focusLocked | focusLost | focusFailed | lensFault | developed | cardWritten | cardPartial | cardState
  | windowShort | recallDone | recallFailed | tetherState | tetherDelivered | tetherDeclined
  | tetherOverdue | tetherExpired | tetherQueueFull | stationPull | powerLevel | settingsSaved | woken
  deriving DecidableEq, Repr

/-- The debounced input lines of CAP (R42). -/
inductive InputLine where
  | relHalf | relFull | trigIn
  deriving DecidableEq, Repr

/-- The station status a beacon carries (R157). -/
inductive StationStatus where
  | opened | held
  deriving DecidableEq, Repr

/-- The reasons of a REFUSE frame (R157). -/
inductive RefuseReason where
  | declined | noSpace | haveIt
  deriving DecidableEq, Repr

/-- One group of R, G1, G2 and B samples of the mosaic, at the frame's bit depth (R38). -/
structure Quad where
  r : Nat
  g1 : Nat
  g2 : Nat
  b : Nat
  deriving DecidableEq, Repr

/-- The two pupil lines of one zone (R69). -/
structure PupilLines where
  l : List Nat
  r : List Nat
  deriving DecidableEq, Repr

/-- The fields of SET_CAPTURE in the order of R39. -/
structure CaptureArgs where
  exposure : Nat
  gain : Nat
  depth : Option Depth
  left : Nat
  top : Nat
  width : Nat
  height : Nat
  drive : Option DriveMode
  rate : Nat
  ringDepth : Nat
  debounce : Nat
  trigger : Option Bool
  step : Nat
  deriving DecidableEq, Repr

/-- The fields of SET_SYNC in the order of R59. -/
structure SyncArgs where
  period : Nat
  mask : BitVec 16
  delay : Nat
  duration : Nat
  wait : Nat
  deriving DecidableEq, Repr

/-- The fields of SET_AF in the order of R78. -/
structure AfArgs where
  mode : Option AfMode
  left : Nat
  top : Nat
  width : Nat
  height : Nat
  minConf : Nat
  tolerance : Nat
  focusWait : Nat
  searchStep : Nat
  deriving DecidableEq, Repr

/-- The fields of SET_LENS in the order of R95; the lens fields are carried whatever the presence flag (R224). -/
structure LensArgs where
  present : Option Bool
  near : Nat
  far : Nat
  gain : Nat
  maxPredict : Nat
  position : Nat
  deriving DecidableEq, Repr

/-- The fields of SET_LOOK after the slot, in the order of R121 and R122. -/
structure LookArgs where
  wb : Option WbMode
  gR : Nat
  gG : Nat
  gB : Nat
  curve : Nat
  scale : Option Scale
  auto : Option Bool
  select : Option Bool
  deriving DecidableEq, Repr

/-- The fields of SET_TETHER: the link fields of R176, then the queue-side fields of R197. -/
structure TetherArgs where
  station : Addr
  part : Addr
  etherType : Nat
  ackTimeout : Nat
  autoRejoin : Option Bool
  pullList : Option Bool
  pullThumb : Option Bool
  pullRendition : Option Bool
  pullRaw : Option Bool
  pullCap : Nat
  urgentLevel : Nat
  deriving DecidableEq, Repr

/-- The fields of SET_SEND_RULE after the rule index, in the order of R192. -/
structure RuleArgs where
  matching : Option RuleMatch
  kind : Option Pict
  priority : Nat
  offset : Option (Option Nat)
  policy : Option Policy
  deriving DecidableEq, Repr

/-- The commands of the block: one constructor for each row of the opcode table, in the table's order. A host
command carries the TAG of its frame first. -/
inductive Instr where
  | identify (tag : Nat)
  | getStatus (tag : Nat) (parts : List (Option StatusPart))
  | readReports (tag count : Nat) (sel : Option LineSel)
  | setRoutes (tag : Nat) (pairs : List (Option ReportKind × Option Route))
  | reset (tag : Nat)
  | setTime (tag time : Nat)
  | setPower (tag : Nat) (target : Option PowerState)
  | setThresholds (tag low critical : Nat)
  | saveSettings (tag : Nat)
  | setCapture (tag : Nat) (args : CaptureArgs)
  | setSync (tag : Nat) (args : SyncArgs)
  | release (tag : Nat) (action : Option ReleaseAction)
  | setShotBase (tag number : Nat)
  | setAf (tag : Nat) (args : AfArgs)
  | setLens (tag : Nat) (args : LensArgs)
  | listShots (tag start count : Nat)
  | readShot (tag shot : Nat)
  | readThumb (tag shot offset length : Nat)
  | tagShot (tag shot : Nat) (urgent picked : Option TagAction) (rating : Option (Option Nat))
  | hold (tag shot : Nat) (kind : Option Pict)
  | unhold (tag shot : Nat) (kind : Option Pict)
  | deleteShot (tag shot : Nat)
  | readCardIndex (tag position count : Nat)
  | setLook (tag slot : Nat) (args : LookArgs)
  | setCurve (tag slot : Nat) (points : List Nat)
  | develop (tag shot look : Nat)
  | setCardMode (tag : Nat) (mode : Option CardMode) (content : Option CardContent)
  | grantWindow (tag : Nat) (slot : Option Slot) (mount start length : Nat)
  | recall (tag shot : Nat) (kind : Option Pict)
  | setTether (tag : Nat) (args : TetherArgs)
  | setSendRule (tag index : Nat) (args : RuleArgs)
  | enqueue (tag shot : Nat) (kind : Option Pict) (priority : Nat) (deadline : Option (Option Nat)) (policy : Option Policy)
  | cancelItem (tag item : Nat)
  | readQueue (tag position count : Nat)
  | answerPull (tag pull : Nat) (answer : Option PullAnswer) (priority : Nat)
  | rejoin (tag : Nat)
  | chipSelectFall
  | chipSelectRise
  /-- The second LENGTH byte has arrived and gives this length. -/
  | lengthOversize (length : Nat)
  /-- The bytes of the frame from the first LENGTH byte through the second CHECK byte. -/
  | frameComplete (bytes : List Byte)
  /-- `reading` is the first supply reading of the COMMAND reset this read may begin (R206). -/
  | replyRead (reading : Nat)
  | resetPendingTimeout (reading : Nat)
  | pinReset (reading : Nat)
  | brownoutHold
  | powerLoss
  | supplyRecovered (reading : Nat)
  | supplyReading (millivolts : Nat)
  | wakeEnd
  /-- `passes` says whether the image read back passes its check (R217). -/
  | settingsWriteEnd (passes : Bool)
  | warmupEnd
  /-- The pupil lines of the 150 zones in zone order; a zone or sample not listed is read as 0. -/
  | liveFrame (lines : List PupilLines)
  | lineLevelChange (line : InputLine) (high : Bool)
  | debounceRecognized (line : InputLine)
  | flashReadyChange (high : Bool)
  | flashWaitExpiry
  | flashPulseStart
  | flashPulseEnd
  | frameOpportunity
  | exposureEnd
  /-- The raw samples of columns 0 to 63 of the 16 OB rows; a sample not listed is 0. -/
  | obRowsEnd (samples : List Nat)
  /-- The quads of the crop window row by row, and the frame's pupil lines; what is not listed is 0. -/
  | readoutEnd (quads : List Quad) (lines : List PupilLines)
  | lensMoving
  | lensSettled (position : Nat)
  | lensAnswerTimeout
  | lostTimerExpiry
  | focusWaitExpiry
  | inFocusAgeExpiry
  | thumbPassEnd
  | renderPassEnd
  | cardInserted (slot : Slot)
  | mountComplete (slot : Slot) (capacity : Nat) (writeProtected : Bool)
  | mountFailed (slot : Slot)
  | mountTimeout (slot : Slot)
  | cardRemoved (slot : Slot)
  | extentWriteEnd (slot : Slot) (success : Bool)
  /-- `data` is what the card gave for the extent; bytes not listed are 0. -/
  | extentReadEnd (slot : Slot) (success : Bool) (data : List Byte)
  | carrierUp
  | carrierDown
  /-- A received frame, from its destination through its frame check sequence. -/
  | relayFrameBad (frame : List Byte)
  | relayFrameDisregarded (frame : List Byte)
  | acceptReceived (transfer start credit : Nat)
  | refuseReceived (transfer : Nat) (reason : RefuseReason)
  | ackReceived (transfer index credit : Nat)
  | nakReceived (transfer index : Nat)
  | beaconReceived (counter : Nat) (status : StationStatus)
  | pullReceived (pull : Nat) (kind : PullKind) (shot priority : Nat)
  | beaconLoss
  | offerTimeout
  | ackTimeout
  | portFree
  | deadlineExpiry (item : Nat)
  | syncByte
  deriving DecidableEq, Repr

end Sys2Proof
end

