-- ==== Sys2Proof/Config.lean ====
section
/-! DEFINITION. The constants the manual fixes for every part, and the free values: what the manual leaves open,
as constants with no body, so that no proof can lean on a value of theirs. -/

namespace Sys2Proof.Config

/-- Free value: what the time base reads once it is carried past 2^64 - 1, which R203 does not say
(log entry 4). Its argument is the exact count. -/
opaque timePastEnd : Nat → BitVec 64

/-- Free value: the reading of a moment that lies before time base 0, as when SET_TIME steps the base back past
the opportunity GET_STATUS gives (R205; log entry 4). Its argument is how far below 0 the moment lies. -/
opaque timeBeforeZero : Nat → BitVec 64

/-- The bits of the fewest consecutive samples that fill whole bytes: two of 12 bits in three bytes, four of 14 bits in
seven (R38; log entry 14). -/
def groupBits : Depth → Nat
  | .d12 => 24
  | .d14 => 56

theorem groupBits_pos (d : Depth) : 0 < groupBits d := by cases d <;> decide

/-- An order of `n` bits: what the bit at each place is, and at which place each bit stands. -/
structure BitOrder (n : Nat) where
  bitAt : Fin n → Fin n
  placeOf : Fin n → Fin n
  bitAt_placeOf : ∀ k, bitAt (placeOf k) = k
  placeOf_bitAt : ∀ p, placeOf (bitAt p) = p

/-- There is an order: the bits as they come. -/
def someOrder (n : Nat) : BitOrder n := ⟨id, id, fun _ => rfl, fun _ => rfl⟩

/-- Free value: the order in which the bytes of one such group hold the bits of its samples (R38, R54). The manual gives
the raw's size and the order of its samples and not the order of the packed bits (log entry 14). -/
opaque freeOrder (depth : Depth) [Inhabited (BitOrder (groupBits depth))] : BitOrder (groupBits depth)

/-- The order of the bits of a group, which is the free one. -/
def bitOrder (d : Depth) : BitOrder (groupBits d) := @freeOrder d ⟨someOrder _⟩

/-- Free value: the code of the pull kind LIST, to which the list of kinds R224 names gives none (log entry 12). -/
opaque pullListCode : Byte

/-- The extents of the shot buffer (R1). -/
def extents : Nat := 2048
/-- The bytes of one extent (R1). -/
def extentBytes : Nat := 1048576
/-- The shot entries (R5). -/
def entries : Nat := 64
/-- The card index entries (R26). -/
def indexEntries : Nat := 1024
/-- The card blocks of one extent (R139). -/
def extentBlocks : Nat := 2048
/-- The bytes of a card block (R137). -/
def blockBytes : Nat := 512
/-- The bytes of a relay segment (R170). -/
def segmentBytes : Nat := 1024
/-- The replies the reply queue holds (R222). -/
def replyQueue : Nat := 8
/-- The records the report queue holds (R225). -/
def reportQueue : Nat := 64
/-- The tether items (R180). -/
def items : Nat := 128
/-- The pulls the inbox holds (R200). -/
def inbox : Nat := 8
/-- The recalls one slot holds (R149). -/
def recalls : Nat := 4
/-- The zones of the phase-detect grid (R68). -/
def zones : Nat := 150

end Sys2Proof.Config
end

