-- ==== Sys2Proof/Machine/Settings.lean ====
section
/-! DEFINITION. The working settings, which the settings store keeps an image of (R216), the free value that stands for
that image's bytes, and the factory defaults. -/

namespace Sys2Proof.Machine
open Sys2Proof

/-- The crop window (R40). -/
structure Crop where
  left : Nat
  top : Nat
  width : Nat
  height : Nat
  deriving DecidableEq, Repr

/-- The capture settings (R39). -/
structure CaptureSettings where
  exposure : Nat
  gain : Nat
  depth : Depth
  crop : Crop
  drive : DriveMode
  rate : Nat
  ringDepth : Nat
  debounce : Nat
  trigger : Bool
  step : Nat
  deriving DecidableEq, Repr

/-- The sync settings (R59). -/
structure SyncSettings where
  period : Nat
  mask : BitVec 16
  delay : Nat
  duration : Nat
  wait : Nat
  deriving DecidableEq, Repr

/-- The AF area (R79). -/
structure Area where
  left : Nat
  top : Nat
  width : Nat
  height : Nat
  deriving DecidableEq, Repr

/-- The AF settings (R78). -/
structure AfSettings where
  mode : AfMode
  area : Area
  minConf : Nat
  tolerance : Nat
  focusWait : Nat
  searchStep : Nat
  deriving DecidableEq, Repr

/-- Three gains in 1/1024 units (R121). -/
structure Gains where
  r : Nat
  g : Nat
  b : Nat
  deriving DecidableEq, Repr

/-- A look (R121). -/
structure Look where
  wb : WbMode
  gains : Gains
  curve : Nat
  scale : Scale
  auto : Bool
  deriving DecidableEq, Repr

/-- A send rule (R192). -/
structure SendRule where
  matching : RuleMatch
  kind : Pict
  priority : Nat
  offset : Option Nat
  policy : Policy
  deriving DecidableEq, Repr

/-- The tether settings: the link fields of R176 and the queue-side fields of R197. -/
structure TetherSettings where
  station : Addr
  part : Addr
  etherType : Nat
  ackTimeout : Nat
  autoRejoin : Bool
  pullList : Bool
  pullThumb : Bool
  pullRendition : Bool
  pullRaw : Bool
  pullCap : Nat
  urgentLevel : Nat
  deriving DecidableEq, Repr

/-- The working settings, group by group as R216 lists the image. -/
structure Settings where
  capture : CaptureSettings
  sync : SyncSettings
  af : AfSettings
  looks : List Look
  curves : List (List Nat)
  currentLook : Nat
  cardMode : CardMode
  cardContent : CardContent
  rule0 : SendRule
  rule1 : SendRule
  tether : TetherSettings
  routes : List Route
  low : Nat
  critical : Nat
  deriving DecidableEq, Repr

end Sys2Proof.Machine

namespace Sys2Proof.Config

/-- Free value: the bytes of the settings store's image of the working settings, over which its CRC-32 stands. R216 lists
the image's groups and gives no layout (log entry 15). -/
opaque imageBytes : Machine.Settings → List Byte

end Sys2Proof.Config

namespace Sys2Proof.Machine
open Sys2Proof

/-- The factory capture settings (R39). -/
def CaptureSettings.factory : CaptureSettings :=
  { exposure := 4000, gain := 0, depth := .d12, crop := ⟨0, 0, 6000, 4000⟩, drive := .single, rate := 10,
    ringDepth := 4, debounce := 2000, trigger := false, step := 32 }

/-- The factory sync settings (R59). -/
def SyncSettings.factory : SyncSettings :=
  { period := 1, mask := 0, delay := 0, duration := 1000, wait := 0 }

/-- The factory AF settings (R78). -/
def AfSettings.factory : AfSettings :=
  { mode := .single, area := ⟨5, 3, 5, 4⟩, minConf := 64, tolerance := 8, focusWait := 0, searchStep := 200 }

/-- The factory look of slot 0 (R121). -/
def Look.factoryGrey : Look :=
  { wb := .autoGrey, gains := ⟨2048, 1024, 1638⟩, curve := 0, scale := .quarter, auto := false }

/-- The factory look of slots 1 to 7 (R121). -/
def Look.factoryFixed : Look :=
  { wb := .fixed, gains := ⟨1024, 1024, 1024⟩, curve := 0, scale := .half, auto := false }

/-- Factory curve 0 (R122). -/
def curveFactory : List Nat := [0, 40, 72, 98, 120, 139, 156, 171, 185, 198, 210, 220, 229, 237, 244, 250, 255]

/-- Factory curves 1, 2 and 3: `T[k] = min(255, 16k)` (R122). -/
def curveLinear : List Nat := (List.range 17).map fun k => min 255 (16 * k)

/-- Both factory send rules, which make no items (R192). -/
def SendRule.factory : SendRule :=
  { matching := .none, kind := .thumb, priority := 0, offset := none, policy := .keep }

/-- The factory tether settings (R176, R197). -/
def TetherSettings.factory : TetherSettings :=
  { station := 0, part := 0x020000000614#48, etherType := 0x9C0E, ackTimeout := 200, autoRejoin := true,
    pullList := true, pullThumb := true, pullRendition := true, pullRaw := false, pullCap := 16, urgentLevel := 24 }

/-- The factory routes of the 28 report kinds in the order of their codes (R228). -/
def routesFactory : List Route :=
  [.line1, .line1, .line1, .line0, .line0, .line1, .line0, .line1, .line1, .line1, .line0, .line1, .line1, .line0]
    ++ [.line0, .line0, .line1, .line0, .line0, .line1, .line1, .line1, .line1, .line1, .line0, .line0, .line1, .line1]

/-- The factory defaults of every working setting (R216). -/
def Settings.factory : Settings :=
  { capture := .factory, sync := .factory, af := .factory,
    looks := Look.factoryGrey :: List.replicate 7 Look.factoryFixed,
    curves := [curveFactory, curveLinear, curveLinear, curveLinear], currentLook := 0,
    cardMode := .mirror, cardContent := .raw, rule0 := .factory, rule1 := .factory, tether := .factory,
    routes := routesFactory, low := 6600, critical := 6200 }

end Sys2Proof.Machine
end

