-- ==== Sys2Proof/Machine/Types.lean ====
section
/-! DEFINITION. The state of the eight blocks as plain data: every register, queue, buffer, counter, timer and pin
the manual gives the part, block by block. Times are kept on two scales, which log entry 1 explains: a field
named `…Due` or `opp` or `since` is a moment of elapsed time (R205, second kind); a field named `…Time` is a
reading of the time base (R203). -/

namespace Sys2Proof.Machine
open Sys2Proof

/-! ### Shot Buffer Manager (Chapter 1) -/

/-- The focus verdicts in the order of R12. -/
inductive Verdict where
  | manual | confirmed | predicted | unconfirmed
  deriving DecidableEq, Repr

/-- The flash outcomes (R12). -/
inductive Flash where
  | none | fired | missed
  deriving DecidableEq, Repr

/-- The states of a shot entry in use; FREE is an absent entry (R5). -/
inductive EntryState where
  | ring | exposing | readout | buffered
  deriving DecidableEq, Repr

/-- The card statuses (R13). -/
inductive CardStatus where
  | none | queued | writing | written | failed | abandoned
  deriving DecidableEq, Repr

/-- The hold kinds (R15). -/
inductive Hold where
  | fill | ring | cardA | cardB | unsaved | develop | tether | host
  deriving DecidableEq, Repr

/-- A hold set: each kind at most once (R15). -/
structure HoldSet where
  fill : Bool := false
  ring : Bool := false
  cardA : Bool := false
  cardB : Bool := false
  unsaved : Bool := false
  develop : Bool := false
  tether : Bool := false
  host : Bool := false
  deriving DecidableEq, Repr

/-- Who fills an object (R2, R16). -/
inductive Producer where
  | cap | dev | crd
  deriving DecidableEq, Repr

/-- How a raw is held: the samples of a readout, or the bytes a card gave extent by extent (log entry 13). -/
inductive RawData where
  | sensor (quads : List Quad)
  | card (extents : List (List Byte))
  deriving DecidableEq, Repr

/-- What a develop pass makes: a thumbnail or a rendition at a scale (R125). -/
inductive Output where
  | thumb | rendition (scale : Scale)
  deriving DecidableEq, Repr

/-- Everything a develop pass reads, fixed at its start (R115). -/
structure Recipe where
  source : RawData
  depth : Depth
  width : Nat
  height : Nat
  black : Nat
  gains : Gains
  curve : List Nat
  output : Output
  deriving DecidableEq, Repr

/-- The content of a picture held in the DRAM; its bytes are given by `PictData.byteAt` (log entry 13). -/
inductive PictData where
  | sensor (depth : Depth) (width : Nat) (quads : List Quad)
  | developed (recipe : Recipe)
  | card (extents : List (List Byte))
  deriving DecidableEq, Repr

/-- An object record (R14). -/
structure Obj where
  size : Nat
  extents : List Nat
  complete : Bool
  holds : HoldSet
  scale : Option Scale
  cardBound : Bool
  producer : Producer
  data : PictData
  deriving DecidableEq, Repr

/-- A thumbnail present in its cell (R25). -/
structure Thumb where
  width : Nat
  height : Nat
  size : Nat
  data : PictData
  deriving DecidableEq, Repr

/-- The exposure snapshot (R12). -/
structure Snapshot where
  exposure : Nat
  gain : Nat
  depth : Depth
  crop : Crop
  deriving DecidableEq, Repr

/-- The frame statistics (R12, R63). -/
structure Stats where
  obMean : Nat
  black : Nat
  sr : Nat
  sg : Nat
  sb : Nat
  unclipped : Nat
  clipped : Nat
  deriving DecidableEq, Repr

/-- A job look and, in a shot record, the look snapshot (R12, R106). -/
structure JobLook where
  index : Nat
  wb : WbMode
  gains : Gains
  deriving DecidableEq, Repr

/-- The four card statuses (R13). -/
structure CardStatuses where
  rawA : CardStatus := .none
  rawB : CardStatus := .none
  renditionA : CardStatus := .none
  renditionB : CardStatus := .none
  deriving DecidableEq, Repr

/-- A shot record (R12). -/
structure Shot where
  state : EntryState
  number : Option Nat
  startTime : Nat
  snapshot : Option Snapshot
  stats : Option Stats
  verdict : Verdict
  lensPosition : Option Nat
  zone : Option Nat
  flash : Option Flash
  urgent : Bool
  picked : Bool
  rating : Nat
  look : Option JobLook
  wbFallback : Bool
  thumb : Option Thumb
  raw : Option Obj
  rendition : Option Obj
  cards : CardStatuses
  reinstated : Bool
  deleting : Bool
  deriving DecidableEq, Repr

/-- A card index entry (R26). -/
structure IndexEntry where
  shot : Nat
  startTime : Nat
  kind : Pict
  scale : Option Scale
  slot : Slot
  mount : Nat
  start : Nat
  blocks : Nat
  size : Nat
  verdict : Verdict
  urgent : Bool
  picked : Bool
  rating : Nat
  deriving DecidableEq, Repr

/-- The Shot Buffer Manager. The owner of an extent is the object whose list names it, or the free list (R1). -/
structure Sbm where
  freeList : List Nat
  shots : List (Option Shot)
  nextNumber : Option Nat
  cardIndex : List IndexEntry
  addedCount : Nat
  dramOn : Bool
  deriving DecidableEq, Repr

/-! ### Capture Controller (Chapter 2) -/

/-- The sensor states (R37). -/
inductive SensorState where
  | off | warming | ready | exposing | readout
  deriving DecidableEq, Repr

/-- The drive states (R46). -/
inductive DriveState where
  | idle | ring | shot | spent | burst
  deriving DecidableEq, Repr

/-- The host's part of the release (R43). -/
inductive HostRelease where
  | none | half | full
  deriving DecidableEq, Repr

/-- One debouncer (R42). `atReset` marks a candidate that is the level a line had through a reset. -/
structure Debouncer where
  recognized : Bool
  since : Option Nat
  atReset : Bool
  deriving DecidableEq, Repr

/-- A wait that starts at most once for a frame: the flash wait (R61) or the focus wait (R103). -/
inductive Wait where
  | unstarted
  | running (due : Nat)
  | expired
  deriving DecidableEq, Repr

/-- What a refused open lacked (R6, R52). -/
inductive Lack where
  | noEntry | noSpace | both
  deriving DecidableEq, Repr

/-- The frame the sequence needs next: its opportunity on the frame-interval timer, whether that has come, and
the frame's flash wait and stall (R50 to R52, R61). -/
structure Frame where
  opp : Nat
  reached : Bool
  flashWait : Wait
  stalled : Option Lack
  deriving DecidableEq, Repr

/-- A sequence's own copy of five settings (R41, R47). -/
structure Sequence where
  depth : Depth
  crop : Crop
  drive : DriveMode
  rate : Nat
  ringDepth : Nat
  deriving DecidableEq, Repr

/-- What BURST_END reports of the running burst (R48). -/
structure Burst where
  count : Nat
  first : Option Nat
  last : Option Nat
  missed : Nat
  deriving DecidableEq, Repr

/-- The frame in exposure or readout (R37, R54). `ob` holds the OB mean and B_shot once the OB rows have ended. -/
structure Flight where
  entry : Nat
  depth : Depth
  width : Nat
  height : Nat
  exposureDue : Nat
  readoutDue : Option Nat
  ob : Option (Nat × Nat)
  deriving DecidableEq, Repr

/-- A flash pulse that is due or running (R61). -/
structure Pulse where
  startDue : Nat
  endDue : Nat
  deriving DecidableEq, Repr

/-- The Capture Controller. -/
structure Cap where
  sensor : SensorState
  warmDue : Option Nat
  liveDue : Option Nat
  flight : Option Flight
  black : Option Nat
  drive : DriveState
  sequence : Option Sequence
  ring : List Nat
  frame : Option Frame
  trigger : Bool
  burst : Burst
  host : HostRelease
  relHalf : Debouncer
  relFull : Debouncer
  trigIn : Debouncer
  pattern : Nat
  pulse : Option Pulse
  flashSync : Bool
  prevStart : Option Nat
  prevReadout : Option Nat
  deriving DecidableEq, Repr

/-! ### Focus Unit (Chapters 3 and 4) -/

/-- A zone record; an unmeasured one has no measurement time (R76). -/
structure Zone where
  phase : Int
  confidence : Nat
  edge : Bool
  time : Option Nat
  deriving DecidableEq, Repr

/-- The selected zone with the values of the choice that chose it (R85). -/
structure Selected where
  zone : Nat
  phase : Int
  confidence : Nat
  time : Nat
  deriving DecidableEq, Repr

/-- The focus states (R87). -/
inductive FocusState where
  | idle | searching | driving | locked | tracking | lost | failed | fault
  deriving DecidableEq, Repr

/-- A present lens record (R94). -/
structure Lens where
  near : Nat
  far : Nat
  gain : Nat
  maxPredict : Nat
  deriving DecidableEq, Repr

/-- The kinds of lens target (R98). -/
inductive MoveKind where
  | measured | predicted | sweep
  deriving DecidableEq, Repr

/-- An outstanding move (R98). -/
structure Move where
  target : Nat
  attempt : Nat
  answerDue : Nat
  deriving DecidableEq, Repr

/-- The directions of a sweep (R90). -/
inductive SweepDir where
  | far | near
  deriving DecidableEq, Repr

/-- A running sweep (R90). -/
structure Sweep where
  dir : SweepDir
  reversed : Bool
  deriving DecidableEq, Repr

/-- The gate's answers (R102). -/
inductive Gate where
  | go | hold
  deriving DecidableEq, Repr

/-- The Focus Unit. `line` is the outstanding move: the lens line is AWAITING while it is present and QUIET
otherwise (R98). `gate` is the answer last told for the pending committed frame (R102). -/
structure Foc where
  zones : List Zone
  measureCount : Nat
  eligible : Nat
  selected : Option Selected
  state : FocusState
  lens : Option Lens
  position : Option Nat
  line : Option Move
  pendingTarget : Option (Nat × MoveKind)
  lastMove : Option MoveKind
  superseded : Nat
  repeats : Nat
  history : List (Nat × Nat)
  inFocusTime : Option Nat
  lostTime : Option Nat
  sweep : Option Sweep
  wait : Wait
  gate : Option Gate
  deriving DecidableEq, Repr

/-! ### Development Engine (Chapter 5) -/

/-- A develop job (R106); `kind` is THUMB or RENDITION. -/
structure Job where
  entry : Nat
  shot : Nat
  kind : Pict
  look : JobLook
  urgent : Bool
  returned : Bool
  deriving DecidableEq, Repr

/-- A running pass: its job's shot and entry, when it began and when it ends, and what it reads (R112 to R115). -/
structure Pass where
  shot : Nat
  entry : Nat
  startTime : Nat
  endDue : Nat
  recipe : Recipe
  deriving DecidableEq, Repr

/-- The engine states (R112); WAIT_SPACE keeps what it asked for and the free count at the last refusal (R129). -/
inductive Engine where
  | idle
  | thumbPass (p : Pass)
  | renderPass (p : Pass)
  | waitSpace (asked free : Nat)
  deriving DecidableEq, Repr

/-- The Development Engine. -/
structure Dev where
  queue : List Job
  engine : Engine
  completed : Nat
  served : Nat
  abandoned : Nat
  deriving DecidableEq, Repr

/-! ### Card Controller (Chapter 6) -/

/-- The slot states in the order of R130. -/
inductive SlotState where
  | absent | mounting | locked | idle | writing | suspended | short | failed
  deriving DecidableEq, Repr

/-- A write job (R137). `stop` marks a job that a deletion asked to stop (R142). -/
structure WriteJob where
  shot : Nat
  entry : Nat
  kind : Pict
  blocks : Nat
  extents : Nat
  start : Option Nat
  written : Nat
  stop : Bool
  deriving DecidableEq, Repr

/-- The states of a recall (R149). -/
inductive RecallState where
  | waiting | reserved | reading
  deriving DecidableEq, Repr

/-- The shot fields a recall copies from the card index (R149). -/
structure ShotFields where
  startTime : Nat
  verdict : Verdict
  urgent : Bool
  picked : Bool
  rating : Nat
  rawA : Bool
  rawB : Bool
  renditionA : Bool
  renditionB : Bool
  deriving DecidableEq, Repr

/-- A recall (R149). `stop` marks a reading recall whose shot was deleted (R153). -/
structure Recall where
  shot : Nat
  kind : Pict
  scale : Option Scale
  mount : Nat
  start : Nat
  blocks : Nat
  size : Nat
  fields : ShotFields
  host : Bool
  items : List Nat
  state : RecallState
  entry : Option Nat
  read : Nat
  retry : Nat
  stop : Bool
  deriving DecidableEq, Repr

/-- A run of card blocks (R134). -/
structure Window where
  start : Nat
  length : Nat
  deriving DecidableEq, Repr

/-- A card slot (R130, R134, R137, R149). The active job of a WRITING or SUSPENDED slot is the head of `queue`. -/
structure CardSlot where
  state : SlotState
  readMark : Bool
  mount : Option Nat
  capacity : Option Nat
  mountDue : Option Nat
  window : Option Window
  cursor : Nat
  pendingWindow : Option Window
  queue : List WriteJob
  recalls : List Recall
  retry : Nat
  deriving DecidableEq, Repr

/-- The Card Controller. -/
structure Crd where
  a : CardSlot
  b : CardSlot
  mountCounter : Nat
  deriving DecidableEq, Repr

/-! ### Tether Controller (Chapters 7 and 8) -/

/-- The link states (R160). -/
inductive LinkState where
  | down | seeking | linked | warned | restricted | cut
  deriving DecidableEq, Repr

/-- The causes of TETHER_STATE (R164). -/
inductive LinkCause where
  | carrier | beacon | beaconLoss | counters | rejoin | settings
  deriving DecidableEq, Repr

/-- The states of the active transfer (R167). -/
inductive TransferState where
  | offered | sending
  deriving DecidableEq, Repr

/-- The active transfer (R167). -/
structure Transfer where
  id : Nat
  item : Nat
  shot : Nat
  kind : Pict
  scale : Option Scale
  size : Nat
  priority : Nat
  segments : Nat
  offered : Nat
  state : TransferState
  acked : Nat
  next : Nat
  mark : Nat
  credit : Nat
  ackDue : Option Nat
  offers : Nat
  deriving DecidableEq, Repr

/-- Where a LIST entry says a picture stands (R199). -/
inductive Avail where
  | inBuffer | onCard | unmounted | none
  deriving DecidableEq, Repr

/-- An entry of a LIST frame (R199). -/
structure ListEntry where
  shot : Nat
  startTime : Nat
  verdict : Verdict
  urgent : Bool
  picked : Bool
  rating : Nat
  thumb : Bool
  raw : Avail
  rendition : Avail
  scale : Option Scale
  deriving DecidableEq, Repr

/-- The answers of a PULL_REPLY (R157). -/
inductive PullReply where
  | accepted | refused | busy
  deriving DecidableEq, Repr

/-- The relay frames the part sends (R157). -/
inductive RelayFrame where
  | offer (id shot : Nat) (kind : Pict) (scale : Option Scale) (size priority start : Nat)
  | seg (id index : Nat) (data : List Byte)
  | cancel (id : Nat)
  | list (pull : Nat) (entries : List ListEntry)
  | pullReply (pull : Nat) (answer : PullReply)
  deriving DecidableEq, Repr

/-- The relay frames the station sends (R157). -/
inductive StationFrame where
  | accept (id start credit : Nat)
  | refuse (id : Nat) (reason : RefuseReason)
  | ack (id index credit : Nat)
  | nak (id index : Nat)
  | beacon (counter : Nat) (status : StationStatus)
  | pull (id : Nat) (kind : PullKind) (shot priority : Nat)
  deriving DecidableEq, Repr

/-- The origins of an item (R180). -/
inductive Origin where
  | rule | host | station
  deriving DecidableEq, Repr

/-- The states of an item (R180). -/
inductive ItemState where
  | waitDevelop | waitRecall | ready | sending
  deriving DecidableEq, Repr

/-- A tether item (R180). -/
structure Item where
  number : Nat
  shot : Nat
  entry : Option Nat
  kind : Pict
  priority : Nat
  seq : Nat
  deadline : Option Nat
  policy : Policy
  origin : Origin
  state : ItemState
  resume : Option Nat
  overdue : Bool
  deriving DecidableEq, Repr

/-- A pull held in the inbox (R200). -/
structure Pull where
  id : Nat
  kind : PullKind
  shot : Nat
  priority : Nat
  time : Nat
  deriving DecidableEq, Repr

/-- The Tether Controller, link side and queue side. `recErrors` is REC (R163); `wire` is the frame the port last began to send, byte by byte (R159, R235). -/
structure Tet where
  state : LinkState
  carrier : Bool
  heard : Bool
  lossDue : Option Nat
  lastBeacon : Option Nat
  status : Option StationStatus
  beaconTime : Option Nat
  tec : Nat
  recErrors : Nat
  rejoin : Nat
  transfer : Option Transfer
  nextId : Nat
  tx : List RelayFrame
  wire : Option (List Byte)
  items : List Item
  nextItem : Nat
  nextSeq : Nat
  inbox : List Pull
  delivered : Nat
  declined : Nat
  expired : Nat
  queueFull : Nat
  deriving DecidableEq, Repr

/-! ### Supervisor (Chapter 9) -/

/-- The power levels (R206). -/
inductive PowerLevel where
  | normal | low | critical
  deriving DecidableEq, Repr

/-- What asked for a wake or a move to ACTIVE (R211, R214). -/
inductive WakeCause where
  | command | release
  deriving DecidableEq, Repr

/-- A running wake (R214). -/
structure Wake where
  target : PowerState
  cause : WakeCause
  endDue : Nat
  deriving DecidableEq, Repr

/-- The reset causes (R215). -/
inductive ResetCause where
  | powerOn | brownout | pin | command
  deriving DecidableEq, Repr

/-- The marks of the settings store (R217). -/
inductive StoreMark where
  | valid | writing | failing
  deriving DecidableEq, Repr

/-- The settings store (R216, R217): the image, none while the cells hold no whole one, with the CRC-32 stored beside it,
and the copy a running write carries with the moment the write ends (log entry 15). -/
structure Store where
  mark : StoreMark
  image : Option Settings
  crc : BitVec 32
  copy : Option Settings
  writeDue : Option Nat
  deriving DecidableEq, Repr

/-- The Supervisor. `elapsed` is the model's count of elapsed microseconds, on which every second-kind timer runs
(R205, log entry 1). `brownout` is present during the brown-out hold and says whether power was lost in it
(R209). -/
structure Sup where
  timeBase : Nat
  elapsed : Nat
  reading : Nat
  readingDue : Nat
  level : PowerLevel
  power : PowerState
  wake : Option Wake
  cause : ResetCause
  defaulted : Bool
  brownout : Option Bool
  store : Store
  deriving DecidableEq, Repr

/-! ### Command Link (Chapter 10) -/

/-- The states of the inbound frame assembler (R219). -/
inductive Assembler where
  | closed | hunt | frame | skip
  deriving DecidableEq, Repr

/-- The kinds of link error (R220). -/
inductive LinkError where
  | incomplete | oversize | check
  deriving DecidableEq, Repr

/-- The attention lines (R226). -/
inductive Line where
  | line0 | line1
  deriving DecidableEq, Repr

/-- A reply frame, less its SYNC, LENGTH and CHECK (R233). -/
structure Reply where
  kind : Nat
  tag : Nat
  body : List Byte
  deriving DecidableEq, Repr

/-- A report record (R225, R234). -/
structure Record where
  kind : ReportKind
  line : Line
  seq : Nat
  time : Nat
  fields : List Byte
  deriving DecidableEq, Repr

/-- The command link. `shifting` says that the oldest reply is being shifted out in the present transaction
(R222). `resetDue` is present while a RESET is pending (R231). -/
structure Link where
  assembler : Assembler
  replies : List Reply
  shifting : Bool
  reports : List Record
  nextSeq : Nat
  lost : Nat
  errors : Nat
  lastError : Option LinkError
  discarded : Nat
  resetDue : Option Nat
  deriving DecidableEq, Repr

/-! ### The model's own fields -/

/-- The levels of the input pins; true is high. -/
structure Pins where
  chipSelect : Bool
  relHalf : Bool
  relFull : Bool
  trigIn : Bool
  flashRdy : Bool
  deriving DecidableEq, Repr

/-- Work one block has asked of another within a step, done before the step ends (log entry 6): an evaluation of
the pending frame, a look for a develop job, a recall's request for extents, the link's request
for an item, the judging of preemption, and an item's expiry. -/
inductive Notice where
  | evaluate
  | engineLook
  | recallAsk (slot : Slot)
  | linkAsk
  | preempt
  | expire (item : Nat)
  deriving DecidableEq, Repr

end Sys2Proof.Machine
end

