-- ==== Sys2Proof/Machine/ResetValues.lean ====
section
/-! DEFINITION. What each block holds after a reset, as the last section of its chapter gives it. The Capture
Controller's and the Supervisor's depend on what the reset finds (the pin levels, the settings store, the first
supply reading), so those are functions. -/

namespace Sys2Proof.Machine
open Sys2Proof

/-- R1, R26, R36: every extent free in ascending order, no shot, next number 1, an empty card index. -/
def Sbm.reset : Sbm :=
  { freeList := List.range Config.extents, shots := List.replicate Config.entries none, nextNumber := some 1,
    cardIndex := [], addedCount := 0, dramOn := true }

/-- A debouncer after a reset at moment `now`: recognized low; a line that is high through the reset is a
candidate from the reset on, and its recognition is no edge (R42). -/
def Debouncer.reset (high : Bool) (now : Nat) : Debouncer :=
  { recognized := false, since := if high then some now else none, atReset := high }

/-- No burst. -/
def Burst.empty : Burst := { count := 0, first := none, last := none, missed := 0 }

/-- R37, R66: the power state is ACTIVE after every reset, so the sensor is powered up at once. -/
def Cap.reset (pins : Pins) (now : Nat) : Cap :=
  { sensor := .warming, warmDue := some (now + 12000), liveDue := none, flight := none, black := none,
    drive := .idle, sequence := none, ring := [], frame := none, trigger := false, burst := Burst.empty,
    host := .none, relHalf := Debouncer.reset pins.relHalf now, relFull := Debouncer.reset pins.relFull now,
    trigIn := Debouncer.reset pins.trigIn now, pattern := 0, pulse := none, flashSync := false,
    prevStart := none, prevReadout := none }

/-- An unmeasured zone record (R76). -/
def Zone.unmeasured : Zone := { phase := 0, confidence := 0, edge := false, time := none }

/-- R76, R86, R105. -/
def Foc.reset : Foc :=
  { zones := List.replicate Config.zones Zone.unmeasured, measureCount := 0, eligible := 0, selected := none,
    state := .idle, lens := none, position := none, line := none, pendingTarget := none, lastMove := none,
    superseded := 0, repeats := 0, history := [], inFocusTime := none, lostTime := none, sweep := none,
    wait := .unstarted, gate := none }

/-- R128. -/
def Dev.reset : Dev := { queue := [], engine := .idle, completed := 0, served := 0, abandoned := 0 }

/-- A slot with no card in it (R133, R155). -/
def CardSlot.absent : CardSlot :=
  { state := .absent, readMark := false, mount := none, capacity := none, mountDue := none, window := none,
    cursor := 0, pendingWindow := none, queue := [], recalls := [], retry := 0 }

/-- R155. -/
def Crd.reset : Crd := { a := CardSlot.absent, b := CardSlot.absent, mountCounter := 1 }

/-- R178, R202. -/
def Tet.reset : Tet :=
  { state := .down, carrier := false, heard := false, lossDue := none, lastBeacon := none, status := none,
    beaconTime := none, tec := 0, recErrors := 0, rejoin := 0, transfer := none, nextId := 1,
    tx := [], wire := none, items := [], nextItem := 1, nextSeq := 0, inbox := [], delivered := 0, declined := 0,
    expired := 0, queueFull := 0 }

/-- R219, R232: SKIP if chip select is low at the end of the reset, CLOSED otherwise. -/
def Link.reset (pins : Pins) : Link :=
  { assembler := if pins.chipSelect then .closed else .skip, replies := [], shifting := false, reports := [],
    nextSeq := 0, lost := 0, errors := 0, lastError := none, discarded := 0, resetDue := none }

/-- The power level judged without the margin, as at the first reading after a reset (R206). -/
def firstLevel (low critical reading : Nat) : PowerLevel :=
  if low ≤ reading then .normal else if critical ≤ reading then .low else .critical

/-- The CRC-32 over the image of settings, taken to be the one of the relay frames (R158, R216; log entry 15). -/
def Settings.crc (g : Settings) : BitVec 32 := crc32 (Config.imageBytes g)

/-- The store passes its check: the CRC-32 computed over the image equals the one stored (R216). -/
def Store.passes (st : Store) : Bool := st.image.any fun g => g.crc == st.crc

/-- The store as the check at a reset leaves it: a write cut short has left no whole image (R216, R217). -/
def Store.atReset (st : Store) : Store :=
  { st with mark := if st.passes then .valid else .failing, copy := none, writeDue := none }

/-- The working settings a store gives at a reset: the image whole, or the factory defaults (R216). -/
def Store.settings (st : Store) : Settings := if st.passes then st.image.getD Settings.factory else Settings.factory

/-- The store of a part new from the factory, which fails its check (R216). -/
def Store.new : Store := { mark := .failing, image := none, crc := 0, copy := none, writeDue := none }

/-- R206, R210, R215: `st` is the store after its check. -/
def Sup.reset (st : Store) (cause : ResetCause) (timeBase elapsed reading : Nat) : Sup :=
  { timeBase := timeBase, elapsed := elapsed, reading := reading, readingDue := elapsed + 1000,
    level := firstLevel st.settings.low st.settings.critical reading, power := .active, wake := none,
    cause := cause, defaulted := st.mark == .failing, brownout := none, store := st }

end Sys2Proof.Machine
end

