-- ==== Sys2Proof/Machine/State.lean ====
section
/-! DEFINITION. The state of the part, its reset value, and the reasons a step can stop. -/

namespace Sys2Proof.Machine
open Sys2Proof

/-- The whole part: the commands that wait, the model's own work list, the input pins, the eight blocks and the
working settings. -/
structure State where
  pending : List Instr
  notices : List Notice
  pins : Pins
  link : Link
  sup : Sup
  cap : Cap
  foc : Foc
  sbm : Sbm
  dev : Dev
  crd : Crd
  tet : Tet
  settings : Settings
  deriving DecidableEq, Repr

/-- No command of this part ends in a fault: the manual answers every command with a reply or an effect and lets
every event leave a next state, so the type has no constructor. Safe: no state is given up. -/
inductive Fault
  deriving DecidableEq, Repr

/-- Why a command has no meaning. -/
inductive Refusal where
  /-- Raised by `exec` for a row that has no meaning yet; no arm raises it any more. Safe: the run stops. -/
  | notModelled (mnemonic : String)
  deriving DecidableEq, Repr

/-- The input pins as `State.reset` has them: chip select high, every line low (log entry 5). -/
def Pins.quiet : Pins := { chipSelect := true, relHalf := false, relFull := false, trigIn := false, flashRdy := false }

/-- The part right after the POWER_ON reset of a part new from the factory, with a first supply reading of
7,200 mV (R215, R216; log entry 5). -/
def State.reset : State :=
  { pending := [], notices := [], pins := Pins.quiet, link := Link.reset Pins.quiet,
    sup := Sup.reset Store.new .powerOn 0 0 7200, cap := Cap.reset Pins.quiet 0, foc := Foc.reset,
    sbm := Sbm.reset, dev := Dev.reset, crd := Crd.reset, tet := Tet.reset, settings := Settings.factory }

end Sys2Proof.Machine
end

