-- ==== Sys2Proof/Machine/Operands.lean ====
section
/-! DEFINITION. The encoding of fields (R224), the byte layouts of frames and records (R233 to R235)
and the clamps. -/

namespace Sys2Proof

/-! ### The lists that define the enumerations of the commands -/

/-- R130. -/
def Slot.all : List Slot := [.a, .b]
/-- R180. -/
def Pict.all : List Pict := [.thumb, .rendition, .raw]
/-- R210. -/
def PowerState.all : List PowerState := [.active, .standby, .dormant]
/-- R39: "12 or 14" (log entry 9). -/
def Depth.all : List Depth := [.d12, .d14]
/-- R39. -/
def DriveMode.all : List DriveMode := [.single, .burst, .precapture]
/-- R78. -/
def AfMode.all : List AfMode := [.off, .single, .continuous]
/-- R43: RELEASE HALF, FULL and STOP (log entry 9). -/
def ReleaseAction.all : List ReleaseAction := [.half, .full, .stop]
/-- R28. -/
def TagAction.all : List TagAction := [.keep, .set, .clear]
/-- R121. -/
def WbMode.all : List WbMode := [.fixed, .autoGrey]
/-- R121. -/
def Scale.all : List Scale := [.half, .quarter]
/-- R143. -/
def CardMode.all : List CardMode := [.mirror, .split, .overflow]
/-- R143. -/
def CardContent.all : List CardContent := [.raw, .rawAndRendition]
/-- R192. -/
def RuleMatch.values : List RuleMatch := [.none, .all, .picked, .confirmed, .urgent]
/-- R180. -/
def Policy.all : List Policy := [.keep, .drop]
/-- R201. -/
def PullAnswer.all : List PullAnswer := [.accept, .refuse]
/-- R228. -/
def Route.all : List Route := [.off, .line0, .line1]
/-- R227. -/
def LineSel.all : List LineSel := [.any, .line0, .line1]
/-- R230. -/
def StatusPart.all : List StatusPart :=
  [.link, .supervisor, .capture, .measurement, .focus, .development, .cards, .tetherLink, .tetherQueue]
/-- R228. -/
def ReportKind.all : List ReportKind :=
  [.shotCommitted, .shotBuffered, .shotRetired, .stallBegin, .stallEnd, .burstEnd, .flashMissed, .focusLocked,
   .focusLost, .focusFailed, .lensFault, .developed, .cardWritten, .cardPartial, .cardState, .windowShort]
  ++ [.recallDone, .recallFailed, .tetherState, .tetherDelivered, .tetherDeclined, .tetherOverdue, .tetherExpired,
      .tetherQueueFull, .stationPull, .powerLevel, .settingsSaved, .woken]
/-- R157: "OPEN or HELD". -/
def StationStatus.all : List StationStatus := [.opened, .held]
/-- R157. -/
def RefuseReason.all : List RefuseReason := [.declined, .noSpace, .haveIt]

/-- The readout time of a bit depth (R38). -/
def Depth.readout : Depth → Nat
  | .d12 => 20000
  | .d14 => 40000

/-- The minimum frame interval of a bit depth (R38). -/
def Depth.minInterval : Depth → Nat
  | .d12 => 25000
  | .d14 => 45000

/-- The highest burst rate of a bit depth (R38). -/
def Depth.maxRate : Depth → Nat
  | .d12 => 40
  | .d14 => 22

/-- The bits of a sample. -/
def Depth.bits : Depth → Nat
  | .d12 => 12
  | .d14 => 14

/-- The code of a report kind, 0x01 to 0x1C (R228). -/
def ReportKind.number (k : ReportKind) : Nat := ReportKind.all.idxOf k + 1

end Sys2Proof

namespace Sys2Proof.Machine
open Sys2Proof

/-! ### Numbers, flags, lists (R224) -/

/-- A number in `k` bytes, least significant first, as on the command link. -/
def le : Nat → Nat → List Byte
  | 0, _ => []
  | k + 1, n => BitVec.ofNat 8 n :: le k (n / 256)

/-- A number in `k` bytes, most significant first, as in relay frames. -/
def be (k n : Nat) : List Byte := (le k n).reverse

/-- The number that little-endian bytes spell. -/
def leNat : List Byte → Nat
  | [] => 0
  | b :: bs => b.toNat + 256 * leNat bs

/-- The number that big-endian bytes spell. -/
def beNat (bs : List Byte) : Nat := leNat bs.reverse

/-- A signed number as two's complement in `k` bytes, least significant first. -/
def twos (k : Nat) (z : Int) : List Byte := le k (z % (256 ^ k : Nat)).toNat

/-- A flag: one byte, 0 or 1. -/
def flag (b : Bool) : List Byte := [if b then 1 else 0]

/-- An optional field: a presence byte, then the value when it is present. -/
def opt {α : Type} (f : α → List Byte) : Option α → List Byte
  | none => [0]
  | some a => 1 :: f a

/-- A list: its count in `k` bytes, then its items. -/
def listOf {α : Type} (k : Nat) (f : α → List Byte) (l : List α) : List Byte := le k l.length ++ l.flatMap f

/-- The code of an enumerated value: its position in the list that defines its set. -/
def code {α : Type} [BEq α] (set : List α) (a : α) : List Byte := le 1 (set.idxOf a)

/-- A set: the list of its members in the order of their defining list. -/
def setOf {α : Type} [BEq α] (all : List α) (has : α → Bool) : List Byte := listOf 1 (code all) (all.filter has)

/-- An Ethernet address in the order sent on the wire. -/
def addr (a : Addr) : List Byte := be 6 a.toNat

/-! ### The lists that define the enumerations -/

/-- R39: "OFF, ON" for the trigger mode. -/
def offOn : List Bool := [false, true]
/-- R176, R197: "ON, OFF" for auto-rejoin and the auto-answers (log entry 9). -/
def onOff : List Bool := [true, false]
/-- A flag's two values by their byte (R224). -/
def flagValues : List Bool := [false, true]
/-- R12. -/
def Verdict.all : List Verdict := [.manual, .confirmed, .predicted, .unconfirmed]
/-- R12. -/
def Flash.all : List Flash := [.none, .fired, .missed]
/-- R13. -/
def CardStatus.all : List CardStatus := [.none, .queued, .writing, .written, .failed, .abandoned]
/-- R15. -/
def Hold.all : List Hold := [.fill, .ring, .cardA, .cardB, .unsaved, .develop, .tether, .host]
/-- R37. -/
def SensorState.all : List SensorState := [.off, .warming, .ready, .exposing, .readout]
/-- R46. -/
def DriveState.all : List DriveState := [.idle, .ring, .shot, .spent, .burst]
/-- R43. -/
def HostRelease.all : List HostRelease := [.none, .half, .full]
/-- R52: "NO_ENTRY, NO_SPACE or both" (log entry 9). -/
def Lack.all : List Lack := [.noEntry, .noSpace, .both]
/-- R87. -/
def FocusState.all : List FocusState := [.idle, .searching, .driving, .locked, .tracking, .lost, .failed, .fault]
/-- R98. -/
def MoveKind.all : List MoveKind := [.measured, .predicted, .sweep]
/-- R90. -/
def SweepDir.all : List SweepDir := [.far, .near]
/-- R102. -/
def Gate.all : List Gate := [.go, .hold]
/-- R130. -/
def SlotState.all : List SlotState := [.absent, .mounting, .locked, .idle, .writing, .suspended, .short, .failed]
/-- R149. -/
def RecallState.all : List RecallState := [.waiting, .reserved, .reading]
/-- R160. -/
def LinkState.all : List LinkState := [.down, .seeking, .linked, .warned, .restricted, .cut]
/-- R164. -/
def LinkCause.all : List LinkCause := [.carrier, .beacon, .beaconLoss, .counters, .rejoin, .settings]
/-- R157. -/
def PullReply.all : List PullReply := [.accepted, .refused, .busy]
/-- R167. -/
def TransferState.all : List TransferState := [.offered, .sending]
/-- R199. -/
def Avail.all : List Avail := [.inBuffer, .onCard, .unmounted, .none]
/-- R180. -/
def Origin.all : List Origin := [.rule, .host, .station]
/-- R180. -/
def ItemState.all : List ItemState := [.waitDevelop, .waitRecall, .ready, .sending]
/-- R206: "NORMAL, LOW or CRITICAL". -/
def PowerLevel.all : List PowerLevel := [.normal, .low, .critical]
/-- R211. -/
def WakeCause.all : List WakeCause := [.command, .release]
/-- R215. -/
def ResetCause.all : List ResetCause := [.powerOn, .brownout, .pin, .command]
/-- R218: "VALID, WRITING or FAILING". -/
def StoreMark.all : List StoreMark := [.valid, .writing, .failing]
/-- R220. -/
def LinkError.all : List LinkError := [.incomplete, .oversize, .check]

/-- The code of an entry's state: FREE is 0 (R5, R224). -/
def EntryState.code : EntryState → List Byte
  | .ring => [1]
  | .exposing => [2]
  | .readout => [3]
  | .buffered => [4]

/-- The code of a pull kind: a picture's by R180, LIST's a free value (log entry 12). -/
def pullKindCode : PullKind → List Byte
  | .list => [Config.pullListCode]
  | .pict k => code Pict.all k

/-! ### Command and reply frames, report records (R223, R233, R234) -/

/-- The reply statuses (R223). -/
inductive Status where
  | ok | okClamped | okMerged | accepted | badKind | badLength | badValue | noShot | noRaw | state | busy | full
  deriving DecidableEq, Repr

/-- The status codes of R223. -/
def Status.byte : Status → Byte
  | .ok => 0x00
  | .okClamped => 0x01
  | .okMerged => 0x02
  | .accepted => 0x03
  | .badKind => 0x10
  | .badLength => 0x11
  | .badValue => 0x12
  | .noShot => 0x20
  | .noRaw => 0x21
  | .state => 0x22
  | .busy => 0x23
  | .full => 0x24

/-- OK, or OK_CLAMPED when a value was clamped. -/
def Status.clamped (c : Bool) : Status := if c then .okClamped else .ok

/-- A frame from the first LENGTH byte through the second CHECK byte (R233). -/
def frameBytes (kind tag : Nat) (body : List Byte) : List Byte :=
  let head := le 2 body.length ++ le 1 kind ++ le 1 tag ++ body
  head ++ le 2 (crc16 head).toNat

/-- A reply frame as it is shifted out (R233). -/
def Reply.frame (r : Reply) : List Byte := 0xA5 :: frameBytes r.kind r.tag r.body

/-- A report record as READ_REPORTS returns it (R234). -/
def Record.bytes (r : Record) : List Byte :=
  le 1 r.kind.number ++ (match r.line with | .line0 => le 1 1 | .line1 => le 1 2) ++ le 2 r.seq ++ le 8 r.time
    ++ le 1 r.fields.length ++ r.fields

/-! ### Relay frames (R157, R158, R235) -/

/-- The scale field of a relay frame: a presence byte, and a value byte that is 0 when no scale is present, so that each
kind has its fixed length (R157, R224, R235; log entry 57). -/
def scaleField (s : Option Scale) : List Byte :=
  match s with
  | none => [0, 0]
  | some c => 1 :: code Scale.all c

/-- A LIST entry (R199), most significant bytes first. -/
def ListEntry.bytes (e : ListEntry) : List Byte :=
  be 4 e.shot ++ be 8 e.startTime ++ code Verdict.all e.verdict ++ flag e.urgent ++ flag e.picked ++ be 1 e.rating
    ++ code [true, false] e.thumb ++ code Avail.all e.raw ++ code Avail.all e.rendition ++ scaleField e.scale

/-- The kind byte of a frame the part sends (R235). -/
def RelayFrame.kind : RelayFrame → Byte
  | .offer .. => 0x01
  | .seg .. => 0x04
  | .cancel _ => 0x07
  | .list .. => 0x0A
  | .pullReply .. => 0x0B

/-- The fields of a frame the part sends (R157). A segment index takes 4 bytes, as R235 says. -/
def RelayFrame.fields : RelayFrame → List Byte
  | .offer id shot kind scale size priority start =>
    be 2 id ++ be 4 shot ++ code Pict.all kind ++ scaleField scale ++ be 4 size ++ be 1 priority ++ be 4 start
  | .seg id index data => be 2 id ++ be 4 index ++ data
  | .cancel id => be 2 id
  | .list pull entries => be 2 pull ++ be 1 entries.length ++ entries.flatMap ListEntry.bytes
  | .pullReply pull answer => be 2 pull ++ code PullReply.all answer

/-- A frame as the port sends it: the layout of R235, padded with zero bytes to 60 bytes, with its frame check
sequence, least significant byte first (R158). -/
def RelayFrame.bytes (t : TetherSettings) (f : RelayFrame) : List Byte :=
  let fields := f.fields
  let head := addr t.station ++ addr t.part ++ be 2 t.etherType ++ [1, f.kind] ++ be 2 fields.length ++ fields
  let padded := head ++ List.replicate (60 - head.length) 0
  padded ++ le 4 (crc32 padded).toNat

/-- The fields of a station frame by its kind byte; `none` is a kind, a length or a value the part calls
malformed without looking at the active transfer (R158, R235). -/
def parseStation (kind : Byte) (f : List Byte) : Option StationFrame :=
  match kind.toNat, f.map BitVec.toNat with
  | 0x02, [i1, i0, s3, s2, s1, s0, c] =>
    if 1 ≤ c ∧ c ≤ 64 then some (.accept (256 * i1 + i0) (2 ^ 24 * s3 + 65536 * s2 + 256 * s1 + s0) c) else none
  | 0x03, [i1, i0, r] => (RefuseReason.all[r]?).map fun x => .refuse (256 * i1 + i0) x
  | 0x05, [i1, i0, s3, s2, s1, s0, c] =>
    if 1 ≤ c ∧ c ≤ 64 then some (.ack (256 * i1 + i0) (2 ^ 24 * s3 + 65536 * s2 + 256 * s1 + s0) c) else none
  | 0x06, [i1, i0, s3, s2, s1, s0] => some (.nak (256 * i1 + i0) (2 ^ 24 * s3 + 65536 * s2 + 256 * s1 + s0))
  | 0x08, [c1, c0, st] => (StationStatus.all[st]?).map fun x => .beacon (256 * c1 + c0) x
  | 0x09, [i1, i0, k, s3, s2, s1, s0, p] =>
    let shot := 2 ^ 24 * s3 + 65536 * s2 + 256 * s1 + s0
    match Pict.all[k]? with
    | some q => some (.pull (256 * i1 + i0) (.pict q) shot p)
    | none => if BitVec.ofNat 8 k = Config.pullListCode then some (.pull (256 * i1 + i0) .list shot p) else none
  | _, _ => none

/-- How a received frame is judged (R158), as far as the frame's bytes and the settings decide it. -/
inductive Judged where
  | bad
  | disregarded
  | good (f : StationFrame)
  deriving DecidableEq, Repr

/-- The table of R158, row by row, on a frame from its destination through its frame check sequence. -/
def judgeFrame (t : TetherSettings) (frame : List Byte) : Judged :=
  let n := frame.length
  let body := frame.take (n - 4)
  if n < 64 || 1518 < n || frame.drop (n - 4) != le 4 (crc32 body).toNat then .bad
  else if beNat ((body.drop 12).take 2) != t.etherType then .disregarded
  else if body.take 6 != addr t.part && body.take 6 != List.replicate 6 0xFF then .disregarded
  else if t.station == 0 || (body.drop 6).take 6 != addr t.station then .disregarded
  else
    let len := beNat ((body.drop 16).take 2)
    if (body.drop 14).head? != some 1 then .bad
    else if body.length < 18 + len then .bad
    else match (body.drop 15).head? with
      | none => .bad
      | some kind =>
        match parseStation kind ((body.drop 18).take len) with
        | none => .bad
        | some f => .good f

/-! ### Clamps -/

/-- The nearest value inside `lo … hi`. -/
def clamp (lo hi n : Nat) : Nat := max lo (min hi n)

/-- The nearest value inside `lo … hi`, for a signed value. -/
def clampInt (lo hi z : Int) : Int := max lo (min hi z)

/-- The frame interval of a burst rate (R39). -/
def frameInterval (rate : Nat) : Nat := 1000000 / rate

/-- A value rounded down to a multiple of 16 (R40). -/
def down16 (n : Nat) : Nat := n / 16 * 16

/-- The three steps that clamp a crop window (R40). -/
def Crop.clamped (c : Crop) : Crop :=
  let w := down16 (clamp 1024 6000 c.width)
  let h := down16 (clamp 768 4000 c.height)
  { left := min (down16 c.left) (6000 - w), top := min (down16 c.top) (4000 - h), width := w, height := h }

/-- The size in bytes of a raw (R40). -/
def rawSize (depth : Depth) (c : Crop) : Nat := c.width * c.height * depth.bits / 8

/-- A quotient rounded up. -/
def ceilDiv (n k : Nat) : Nat := n / k + (if n % k = 0 then 0 else 1)

/-- The extents an object of a size needs (R2). -/
def extentsFor (size : Nat) : Nat := ceilDiv size Config.extentBytes

/-- The card blocks of an object of a size (R137). -/
def blocksFor (size : Nat) : Nat := ceilDiv size Config.blockBytes

/-- The relay segments of a picture of a size (R167). -/
def segmentsFor (size : Nat) : Nat := ceilDiv size Config.segmentBytes

end Sys2Proof.Machine
end

