-- ==== Sys2Proof/Machine/Flags.lean ====
section
/-! DEFINITION. Everything the part computes as a level, a flag or a judgement: its output lines (R222, R226, R61),
the press states (R43), the link state from the error counters (R164), the power level (R206), whether focus is
active (R87), the focus gate and the verdict (R102, R104), and the capacities that gate a start (R131, R167). -/

namespace Sys2Proof.Machine
open Sys2Proof

/-! ### Output lines -/

/-- The part is in the brown-out hold (R209). -/
def State.held (s : State) : Bool := s.sup.brownout.isSome

/-- RPLY is high while a reply is queued, and low in the brown-out hold (R209, R222). -/
def State.rply (s : State) : Bool := !s.held && !s.link.replies.isEmpty

/-- The reply the part shifts out in the present transaction: the oldest queued, from the fall of chip select until it
has been read (R222). -/
def State.shiftedReply (s : State) : Option Reply := if s.link.shifting then s.link.replies.head? else none

/-- Byte `i` of a transaction, from its first byte on, as the part shifts it out: of that reply's frame, and 0x00 with no
reply queued, after the reply's last byte, once the reply has been read, and in the brown-out hold (R209, R222, R233). -/
def State.shiftOut (s : State) (i : Nat) : Byte :=
  if s.held then 0 else ((s.shiftedReply.map Reply.frame).getD []).getD i 0

/-- ATTN0 or ATTN1 is high while a record of its line is queued, and low in the hold (R226). -/
def State.attn (s : State) (l : Line) : Bool := !s.held && s.link.reports.any (·.line == l)

/-- FLASH_SYNC (R61, R209). -/
def State.flashSync (s : State) : Bool := !s.held && s.cap.flashSync

/-! ### Press states (R43) -/

/-- Full-press is held by REL_FULL or the host. -/
def Cap.full (c : Cap) : Bool := c.relFull.recognized || c.host == .full

/-- Half-press is held. -/
def Cap.half (c : Cap) : Bool := c.full || c.relHalf.recognized || c.host == .half

/-- Half-press as FOC reads it: with the full-press of a pending trigger frame (R87). -/
def Cap.focusPress (c : Cap) : Bool := c.half || c.trigger

/-! ### The link state (R164) -/

/-- The link state the counters give while there is carrier and the station is heard. -/
def linkJudged (tec rec : Nat) : LinkState :=
  if 256 ≤ tec then .cut
  else if 128 ≤ tec ∨ 128 ≤ rec then .restricted
  else if 96 ≤ tec ∨ 96 ≤ rec then .warned
  else .linked

/-- Transfers start and run in LINKED, WARNED and RESTRICTED (R160). -/
def LinkState.carries : LinkState → Bool
  | .linked | .warned | .restricted => true
  | .down | .seeking | .cut => false

/-- The link is free to start a transfer (R167). -/
def State.linkFree (s : State) : Bool :=
  s.tet.state.carries && s.tet.transfer.isNone && s.sup.level != .critical && s.tet.status == some .opened

/-- The effective credit (R170). -/
def State.effectiveCredit (s : State) (t : Transfer) : Nat := if s.tet.state = .restricted then 1 else t.credit

/-! ### The power level (R206) -/

/-- The level after a reading, from the level in force. -/
def levelAfter (low critical : Nat) (level : PowerLevel) (reading : Nat) : PowerLevel :=
  match level with
  | .normal => if reading < critical then .critical else if reading < low then .low else .normal
  | .low => if reading < critical then .critical else if reading < low + 100 then .low else .normal
  | .critical =>
    if reading < low then (if reading < critical + 100 then .critical else .low)
    else if reading < low + 100 then .low else .normal

/-! ### Focus (R87, R102, R104) -/

/-- Focus is active (R87). -/
def State.focusActive (s : State) : Bool :=
  s.sup.power == .active && s.foc.lens.isSome
    && (match s.settings.af.mode with
        | .continuous => true
        | .single => s.cap.focusPress
        | .off => false)

/-- The last in-focus time is no more than 40,000 µs old; one that lies ahead counts as 0 µs old (R102). -/
def State.freshFocus (s : State) : Bool := s.foc.inFocusTime.any fun t => s.sup.timeBase - t ≤ 40000

/-- The gate's answer for the pending committed frame (R102). -/
def State.gateAnswer (s : State) : Gate :=
  if s.settings.af.focusWait == 0 || s.settings.af.mode == .off || s.foc.lens.isNone || s.foc.state == .fault
      || (s.settings.af.mode == .single && s.foc.state == .locked)
      || (s.settings.af.mode == .continuous && s.foc.state == .tracking && s.freshFocus)
      || s.foc.wait == .expired
  then .go else .hold

/-- The verdict at an exposure start: the first row of R104 that holds. -/
def State.verdict (s : State) : Verdict :=
  if s.settings.af.mode == .off || s.foc.lens.isNone then .manual
  else if s.foc.state == .locked || (s.foc.state == .tracking && s.freshFocus) then .confirmed
  else if s.settings.af.mode == .continuous
      && (s.foc.state == .searching || s.foc.state == .driving || s.foc.state == .tracking || s.foc.state == .lost)
      && s.foc.lastMove == some .predicted then .predicted
  else .unconfirmed

/-- A committed frame is pending: its opportunity has come, or it is the frame of SHOT, which is pending from the
entry (R49, R50). -/
def Cap.committedPending (c : Cap) : Bool :=
  match c.frame with
  | none => false
  | some f => c.drive == .shot || (c.drive == .burst && f.reached)

/-- A frame, ring or committed, is pending. A trigger frame remembered outside ACTIVE has no opportunity yet and is not
shown as one (R45, R67; log entry 50). -/
def Cap.framePending (c : Cap) : Bool :=
  match c.frame with
  | none => false
  | some f => c.drive == .shot || f.reached

/-- The moment a running wait expires. -/
def Wait.due : Wait → Option Nat
  | .running d => some d
  | .unstarted | .expired => none

/-! ### Slots (R131, R151) -/

/-- A slot on which write jobs are enqueued (R131). -/
def SlotState.writable : SlotState → Bool
  | .idle | .writing | .suspended | .short => true
  | .absent | .mounting | .locked | .failed => false

/-- A slot on which recalls are enqueued (R131). -/
def SlotState.readable : SlotState → Bool
  | .locked | .idle | .writing | .suspended | .short => true
  | .absent | .mounting | .failed => false

/-- The remaining window (R134). -/
def CardSlot.remaining (c : CardSlot) : Nat :=
  match c.window with
  | none => 0
  | some w => w.start + w.length - c.cursor

/-- The head recall holds its extents (R151). -/
def CardSlot.recallReserved (c : CardSlot) : Bool :=
  match c.recalls with
  | [] => false
  | r :: _ => r.state == .reserved

/-- The slots drain (R154). -/
def State.draining (s : State) : Bool := s.sup.level == .critical

end Sys2Proof.Machine
end

