-- ==== Sys2Proof/Machine/Ops.lean ====
section
/-! DEFINITION. The named operations on the state that every block uses: updating one block, moving the clocks,
asking for work, raising a report, queueing a reply, and the Shot Buffer Manager's reservations, holds, removals
and retirements (Chapter 1). -/

namespace Sys2Proof.Machine
open Sys2Proof

/-! ### One block updated -/

def State.setPending (s : State) (q : List Instr) : State := { s with pending := q }
def State.setNotices (s : State) (n : List Notice) : State := { s with notices := n }
def State.setPins (s : State) (p : Pins) : State := { s with pins := p }
def State.setLink (s : State) (l : Link) : State := { s with link := l }
def State.setSup (s : State) (u : Sup) : State := { s with sup := u }
def State.setCap (s : State) (c : Cap) : State := { s with cap := c }
def State.setFoc (s : State) (f : Foc) : State := { s with foc := f }
def State.setSbm (s : State) (b : Sbm) : State := { s with sbm := b }
def State.setDev (s : State) (d : Dev) : State := { s with dev := d }
def State.setCrd (s : State) (c : Crd) : State := { s with crd := c }
def State.setTet (s : State) (t : Tet) : State := { s with tet := t }
def State.setSettings (s : State) (g : Settings) : State := { s with settings := g }

/-- A 32-bit count that wraps to 0. -/
def next32 (n : Nat) : Nat := (n + 1) % 4294967296

/-! ### The clocks (R203, R205; log entries 1, 2 and 4) -/

/-- The time base `d` microseconds later. -/
def timeAfter (t d : Nat) : Nat := if t + d < 2 ^ 64 then t + d else (Config.timePastEnd (t + d)).toNat

/-- `d` microseconds pass. -/
def State.elapse (s : State) (d : Nat) : State :=
  s.setSup { s.sup with elapsed := s.sup.elapsed + d, timeBase := timeAfter s.sup.timeBase d }

/-- Elapsed time is carried to a moment, unless that has passed. -/
def State.carryTo (s : State) (due : Nat) : State := if s.sup.elapsed < due then s.elapse (due - s.sup.elapsed) else s

/-- The time base is carried to a reading, unless that has passed. -/
def State.carryToTime (s : State) (t : Nat) : State := if s.sup.timeBase < t then s.elapse (t - s.sup.timeBase) else s

/-- The reading of the time base, as it stands, at a moment of elapsed time (R205). -/
def State.timeOf (s : State) (moment : Nat) : Nat :=
  if s.sup.elapsed ≤ moment then timeAfter s.sup.timeBase (moment - s.sup.elapsed)
  else if s.sup.elapsed - moment ≤ s.sup.timeBase then s.sup.timeBase - (s.sup.elapsed - moment)
  else (Config.timeBeforeZero (s.sup.elapsed - moment - s.sup.timeBase)).toNat

/-! ### Work asked for within a step -/

/-- A block asks another for work; asking twice is asking once. -/
def State.notify (s : State) (n : Notice) : State := if s.notices.contains n then s else s.setNotices (s.notices ++ [n])

/-- SBM announces freed space to CAP, DEV and CRD (R3; the order is log entry 6). -/
def State.announceSpace (s : State) : State :=
  (((s.notify .evaluate).notify .engineLook).notify (.recallAsk .a)).notify (.recallAsk .b)

/-- SBM tells CAP and CRD of a retirement (R51, R150). -/
def State.announceRetirement (s : State) : State :=
  ((s.notify .evaluate).notify (.recallAsk .a)).notify (.recallAsk .b)

/-! ### Reports and replies -/

/-- The route of a report kind (R228). -/
def Settings.route (g : Settings) (k : ReportKind) : Route := g.routes.getD (k.number - 1) .off

/-- The line of a route. -/
def Route.line : Route → Option Line
  | .off => none
  | .line0 => some .line0
  | .line1 => some .line1

/-- A report reaches the link (R225). -/
def Link.take (l : Link) (line : Line) (kind : ReportKind) (time : Nat) (fields : List Byte) : Link :=
  if l.reports.length < Config.reportQueue then
    { l with nextSeq := (l.nextSeq + 1) % 65536,
             reports := l.reports ++ [{ kind := kind, line := line, seq := l.nextSeq, time := time, fields := fields }] }
  else { l with nextSeq := (l.nextSeq + 1) % 65536, lost := min 65535 (l.lost + 1) }

/-- A block raises a report (R225). -/
def State.raise (s : State) (kind : ReportKind) (fields : List Byte) : State :=
  match Route.line (s.settings.route kind) with
  | none => s
  | some line => s.setLink (s.link.take line kind s.sup.timeBase fields)

/-- A reply joins the reply queue (R222). -/
def State.pushReply (s : State) (kind tag : Nat) (status : Status) (rest : List Byte) : State :=
  s.setLink { s.link with replies := s.link.replies ++ [{ kind := kind, tag := tag, body := status.byte :: rest }] }

/-! ### Hold sets (R15) -/

/-- A hold is present. -/
def HoldSet.has (h : HoldSet) : Hold → Bool
  | .fill => h.fill
  | .ring => h.ring
  | .cardA => h.cardA
  | .cardB => h.cardB
  | .unsaved => h.unsaved
  | .develop => h.develop
  | .tether => h.tether
  | .host => h.host

/-- A hold is placed or released. -/
def HoldSet.set (h : HoldSet) (k : Hold) (v : Bool) : HoldSet :=
  match k with
  | .fill => { h with fill := v }
  | .ring => { h with ring := v }
  | .cardA => { h with cardA := v }
  | .cardB => { h with cardB := v }
  | .unsaved => { h with unsaved := v }
  | .develop => { h with develop := v }
  | .tether => { h with tether := v }
  | .host => { h with host := v }

/-- No hold is present. -/
def HoldSet.isEmpty (h : HoldSet) : Bool := h == {}

/-- The card hold of a slot. -/
def cardHold : Slot → Hold
  | .a => .cardA
  | .b => .cardB

/-! ### Shot records -/

/-- The shot record of an entry. -/
def Sbm.shot (b : Sbm) (i : Nat) : Option Shot := (b.shots[i]?).join

/-- An entry's record replaced, or the entry made FREE. -/
def Sbm.put (b : Sbm) (i : Nat) (v : Option Shot) : Sbm := { b with shots := b.shots.set i v }

/-- The shot record of an entry. -/
def State.shot (s : State) (i : Nat) : Option Shot := s.sbm.shot i

/-- A shot record changed in place. -/
def State.mapShot (s : State) (i : Nat) (f : Shot → Shot) : State :=
  match s.shot i with
  | none => s
  | some sh => s.setSbm (s.sbm.put i (some (f sh)))

/-- A committed entry of a number (R5). -/
def isCommitted (n : Nat) (e : Option Shot) : Bool := e.any fun sh => sh.state != .ring && sh.number == some n

/-- The index of the committed entry of a number. -/
def State.entryOf (s : State) (n : Nat) : Option Nat := s.sbm.shots.findIdx? (isCommitted n)

/-- The committed entry of a number, with its index. -/
def State.committed (s : State) (n : Nat) : Option (Nat × Shot) :=
  match s.entryOf n with
  | none => none
  | some i => (s.shot i).map fun sh => (i, sh)

/-- The object of a kind; a thumbnail is no object (R14). -/
def Shot.obj (sh : Shot) : Pict → Option Obj
  | .thumb => none
  | .rendition => sh.rendition
  | .raw => sh.raw

/-- The object of a kind replaced. -/
def Shot.setObj (sh : Shot) (k : Pict) (o : Option Obj) : Shot :=
  match k with
  | .thumb => sh
  | .rendition => { sh with rendition := o }
  | .raw => { sh with raw := o }

/-- An object changed in place. -/
def State.mapObj (s : State) (i : Nat) (k : Pict) (f : Obj → Obj) : State :=
  s.mapShot i fun sh => sh.setObj k ((sh.obj k).map f)

/-- The object of a kind in an entry. -/
def State.obj (s : State) (i : Nat) (k : Pict) : Option Obj := (s.shot i).bind fun sh => sh.obj k

/-- A hold placed (R15). -/
def State.place (s : State) (i : Nat) (k : Pict) (h : Hold) : State :=
  s.mapObj i k fun o => { o with holds := o.holds.set h true }

/-- The card status of a kind and slot (R13). -/
def CardStatuses.get (c : CardStatuses) (k : Pict) (sl : Slot) : CardStatus :=
  match k, sl with
  | .raw, .a => c.rawA
  | .raw, .b => c.rawB
  | .rendition, .a => c.renditionA
  | .rendition, .b => c.renditionB
  | .thumb, _ => .none

/-- A card status set (R13). -/
def CardStatuses.put (c : CardStatuses) (k : Pict) (sl : Slot) (v : CardStatus) : CardStatuses :=
  match k, sl with
  | .raw, .a => { c with rawA := v }
  | .raw, .b => { c with rawB := v }
  | .rendition, .a => { c with renditionA := v }
  | .rendition, .b => { c with renditionB := v }
  | .thumb, _ => c

/-- The card status of an object's kind and slot set (R13). -/
def State.setCardStatus (s : State) (i : Nat) (k : Pict) (sl : Slot) (v : CardStatus) : State :=
  s.mapShot i fun sh => { sh with cards := sh.cards.put k sl v }

/-! ### What names a shot (R10) -/

/-- A slot's record. -/
def Crd.slot (c : Crd) : Slot → CardSlot
  | .a => c.a
  | .b => c.b

/-- A slot's record replaced. -/
def Crd.put (c : Crd) (sl : Slot) (v : CardSlot) : Crd :=
  match sl with
  | .a => { c with a := v }
  | .b => { c with b := v }

/-- A slot's record. -/
def State.slot (s : State) (sl : Slot) : CardSlot := s.crd.slot sl

/-- A slot's record replaced. -/
def State.setSlot (s : State) (sl : Slot) (v : CardSlot) : State := s.setCrd (s.crd.put sl v)

/-- Every recall of both slots. -/
def State.allRecalls (s : State) : List Recall := s.crd.a.recalls ++ s.crd.b.recalls

/-- A develop job names the shot. -/
def State.jobNames (s : State) (n : Nat) : Bool := s.dev.queue.any (·.shot == n)

/-- A tether item names the shot. -/
def State.itemNames (s : State) (n : Nat) : Bool := s.tet.items.any (·.shot == n)

/-- A recall names the shot. -/
def State.recallNames (s : State) (n : Nat) : Bool := s.allRecalls.any (·.shot == n)

/-- A recall of the shot's raw is queued or reading (R108). -/
def State.rawRecalled (s : State) (n : Nat) : Bool := s.allRecalls.any fun r => r.shot == n && r.kind == .raw

/-! ### Free list, removal and retirement (R1 to R3, R10, R15) -/

/-- The free count (R1). -/
def Sbm.freeCount (b : Sbm) : Nat := b.freeList.length

/-- The lowest-indexed FREE entry (R6). -/
def Sbm.freeEntry (b : Sbm) : Option Nat := b.shots.findIdx? Option.isNone

/-- The number of FREE entries (R32). -/
def Sbm.freeEntries (b : Sbm) : Nat := b.shots.countP Option.isNone

/-- An extent put in its place in an ascending list. -/
def insertAscending (n : Nat) : List Nat → List Nat
  | [] => [n]
  | m :: ms => if n ≤ m then n :: m :: ms else m :: insertAscending n ms

/-- A list of extents in ascending number (R3). -/
def ascending (l : List Nat) : List Nat := l.foldr insertAscending []

/-- SHOT_RETIRED's fields: the shot number, the entry index and the four card statuses (R10). -/
def retiredFields (n i : Nat) (c : CardStatuses) : List Byte :=
  le 4 n ++ le 1 i ++ code CardStatus.all c.rawA ++ code CardStatus.all c.rawB ++ code CardStatus.all c.renditionA
    ++ code CardStatus.all c.renditionB

/-- A BUFFERED entry with no object, and no job, item or recall that names it, retires (R10). -/
def State.checkRetire (s : State) (i : Nat) : State :=
  match s.shot i with
  | none => s
  | some sh =>
    match sh.number with
    | none => s
    | some n =>
      if sh.state == .buffered && sh.raw.isNone && sh.rendition.isNone && !s.jobNames n && !s.itemNames n
          && !s.recallNames n then
        ((s.setSbm (s.sbm.put i none)).raise .shotRetired (retiredFields n i sh.cards)).announceRetirement
      else s

/-- The retirement of the committed entry of a number is checked. -/
def State.checkRetireShot (s : State) (n : Nat) : State :=
  match s.entryOf n with
  | none => s
  | some i => s.checkRetire i

/-- An object is removed: its extents go to the tail of the free list in ascending number, and space is announced
(R3). -/
def State.removeObj (s : State) (i : Nat) (k : Pict) : State :=
  match s.obj i k with
  | none => s
  | some o =>
    let s1 := s.mapShot i fun sh => sh.setObj k none
    (s1.setSbm { s1.sbm with freeList := s1.sbm.freeList ++ ascending o.extents }).announceSpace

/-- The holds of an object replaced as one step; the object is removed if none is left, and the entry is checked
(R15). -/
def State.setHolds (s : State) (i : Nat) (k : Pict) (f : HoldSet → HoldSet) : State :=
  match s.obj i k with
  | none => s
  | some o =>
    if (f o.holds).isEmpty then (s.removeObj i k).checkRetire i
    else s.mapObj i k fun o => { o with holds := f o.holds }

/-- A hold released (R15). -/
def State.releaseHold (s : State) (i : Nat) (k : Pict) (h : Hold) : State := s.setHolds i k fun hs => hs.set h false

/-! ### Reservation (R2, R6, R7) -/

/-- A new FILLING object (R2, R14, R16). -/
def newObj (size : Nat) (extents : List Nat) (producer : Producer) (scale : Option Scale) (ring : Bool) (data : PictData) : Obj :=
  { size := size, extents := extents, complete := false, holds := { fill := true, ring := ring }, scale := scale,
    cardBound := false, producer := producer, data := data }

/-- The reservation of R2 for an entry that may own the object: `none` is NO_SPACE. -/
def State.reserve (s : State) (i : Nat) (k : Pict) (size : Nat) (producer : Producer) (scale : Option Scale) (ring : Bool)
    (data : PictData) : Option State :=
  let n := extentsFor size
  if n ≤ s.sbm.freeCount then
    let o := newObj size (s.sbm.freeList.take n) producer scale ring data
    some ((s.setSbm { s.sbm with freeList := s.sbm.freeList.drop n }).mapShot i fun sh => sh.setObj k (some o))
  else none

/-- What an open lacks: a FREE entry and numbers (R7), and the raw's extents (R2). -/
def openLack (entryLacking spaceLacking : Bool) : Option Lack :=
  match entryLacking, spaceLacking with
  | false, false => none
  | true, false => some .noEntry
  | false, true => some .noSpace
  | true, true => some .both

/-- What a committed open lacks (R6, R7). -/
def State.committedLack (s : State) (size : Nat) : Option Lack :=
  openLack (s.sbm.freeEntry.isNone || s.sbm.nextNumber.isNone) (s.sbm.freeCount < extentsFor size)

/-- What a ring open lacks (R6, R7): the numbers from the next through 4,294,967,295 must be more than the entries
of the ring. -/
def State.ringLack (s : State) (ringCount size : Nat) : Option Lack :=
  let numbers := match s.sbm.nextNumber with
    | none => 0
    | some n => 4294967296 - n
  openLack (s.sbm.freeEntry.isNone || numbers ≤ ringCount) (s.sbm.freeCount < extentsFor size)

/-- The next shot number is taken (R7). -/
def Sbm.takeNumber (b : Sbm) : Sbm :=
  { b with nextNumber := match b.nextNumber with
                         | none => none
                         | some n => if n < 4294967295 then some (n + 1) else none }

/-- The shot record of a new frame (R12). -/
def newShot (state : EntryState) (number : Option Nat) (start : Nat) (snap : Snapshot) (verdict : Verdict)
    (lens zone : Option Nat) (flash : Flash) (look : Option JobLook) : Shot :=
  { state := state, number := number, startTime := start, snapshot := some snap, stats := none, verdict := verdict,
    lensPosition := lens, zone := zone, flash := some flash, urgent := false, picked := false, rating := 0,
    look := look, wbFallback := false, thumb := none, raw := none, rendition := none, cards := {},
    reinstated := false, deleting := false }

/-- The look snapshot taken at a commit: the current look (R121). -/
def Settings.lookSnapshot (g : Settings) : JobLook :=
  let l := g.looks.getD g.currentLook Look.factoryFixed
  { index := g.currentLook, wb := l.wb, gains := l.gains }

/-- The newest card index entry of a shot. -/
def State.newestIndex (s : State) (n : Nat) : Option IndexEntry := s.sbm.cardIndex.reverse.find? (·.shot == n)

/-- The card index entries of a shot and kind, newest first (R27). -/
def State.indexOf (s : State) (n : Nat) (k : Pict) : List IndexEntry :=
  s.sbm.cardIndex.reverse.filter fun e => e.shot == n && e.kind == k

/-- A card index entry added at the newest end (R26). -/
def Sbm.addIndex (b : Sbm) (e : IndexEntry) : Sbm :=
  let kept := b.cardIndex.filter fun x => !(x.shot == e.shot && x.kind == e.kind && x.slot == e.slot)
  let room := if kept.length < Config.indexEntries then kept else kept.drop 1
  { b with cardIndex := room ++ [e], addedCount := next32 b.addedCount }

end Sys2Proof.Machine
end

