-- ==== Sys2Proof/Machine/Picture.lean ====
section
/-! DEFINITION. The arithmetic on samples: the black baseline and frame statistics (R62, R63), the correlation of
pupil lines (R70 to R75), and the pixel pipeline of development (R124 to R127). -/

namespace Sys2Proof.Machine
open Sys2Proof

/-! ### Frame measurement -/

/-- The white code in 14-bit units (R38). -/
def whiteCode : Nat := 16000

/-- The greatest black baseline (R62). -/
def blackMax : Nat := 32752

/-- A sample in 14-bit units (R38). -/
def normalized (d : Depth) (v : Nat) : Nat :=
  match d with
  | .d12 => 4 * v
  | .d14 => v

/-- A quad in 14-bit units. -/
def normalizedQuad (d : Depth) (q : Quad) : Quad :=
  ⟨Machine.normalized d q.r, Machine.normalized d q.g1, Machine.normalized d q.g2, Machine.normalized d q.b⟩

/-- The OB mean of the 1,024 samples of columns 0 to 63 of the 16 OB rows (R62). -/
def obMean (d : Depth) (samples : List Nat) : Nat := ((samples.take 1024).map (normalized d)).sum / 1024

/-- The black baseline after a frame's OB mean (R62). -/
def nextBlack (step : Nat) (black : Option Nat) (mean : Nat) : Nat :=
  match black with
  | none => min (16 * mean) blackMax
  | some b =>
    let q := clampInt (-step) step (Int.tdiv (16 * mean - b) 8)
    (clampInt 0 blackMax (b + q)).toNat

/-- A sample less the black level, never below 0 (R63, R124). -/
def aboveBlack (black v : Nat) : Nat := 16 * v - black

/-- A quad whose four normalized samples all lie below the white code (R63). -/
def unclippedQuad (q : Quad) : Bool := q.r < whiteCode && q.g1 < whiteCode && q.g2 < whiteCode && q.b < whiteCode

/-- One normalized quad added to the frame's sums and counts (R63). -/
def Stats.add (s : Stats) (q : Quad) : Stats :=
  if unclippedQuad q then
    { s with sr := s.sr + aboveBlack s.black q.r,
             sg := s.sg + (aboveBlack s.black q.g1 + aboveBlack s.black q.g2) / 2,
             sb := s.sb + aboveBlack s.black q.b, unclipped := s.unclipped + 1 }
  else { s with clipped := s.clipped + 1 }

/-- The quads of a crop window (R63). -/
def quadCount (width height : Nat) : Nat := (width / 2) * (height / 2)

/-- The frame statistics of a crop window (R63). A quad the readout does not list is all 0, lies below black and
is unclipped. -/
def frameStats (d : Depth) (width height mean black : Nat) (quads : List Quad) : Stats :=
  let listed := quads.take (quadCount width height)
  let s := (listed.map (normalizedQuad d)).foldl Stats.add ⟨mean, black, 0, 0, 0, 0, 0⟩
  { s with unclipped := s.unclipped + (quadCount width height - listed.length) }

/-! ### Correlation -/

/-- SAD(s) (R70). -/
def sad (p : PupilLines) (s : Int) : Nat :=
  ((List.range 32).map fun i =>
    (((p.l.getD (((16 + i : Nat) : Int) + s).toNat 0 : Nat) : Int) - (p.r.getD (16 + i) 0 : Nat)).natAbs).sum

/-- The 33 shifts from -16 to 16. -/
def shifts : List Int := (List.range 33).map fun k : Nat => (k : Int) - 16

/-- The shifts in the order in which R71 breaks ties: by magnitude, -k before k. -/
def shiftsByMagnitude : List Int := 0 :: (List.range 16).flatMap fun k : Nat => [-((k : Int) + 1), (k : Int) + 1]

/-- The least of a curve's values (R71). -/
def leastOf : List Nat → Nat
  | [] => 0
  | n :: ns => ns.foldl min n

/-- The offset of R73 from the two neighbours of the best shift. -/
def subSample (a b c : Nat) : Int :=
  let den : Int := a - 2 * b + c
  if den = 0 then 0 else clampInt (-8) 8 (Int.tdiv (16 * ((a : Int) - c)) (2 * den))

/-- The measurement of one zone (R70 to R74), at time base `t`. -/
def measureZone (t : Nat) (p : PupilLines) : Zone :=
  let curve := shifts.map (sad p)
  let smin := leastOf curve
  let at' (s : Int) : Nat := curve.getD (s + 16).toNat 0
  let s0 := (shiftsByMagnitude.find? fun s => at' s == smin).getD 0
  let edge := s0 == -16 || s0 == 16
  let phase := if edge then 16 * s0 else 16 * s0 + subSample (at' (s0 - 1)) smin (at' (s0 + 1))
  let smean := curve.sum / 33
  { phase := phase, confidence := min 255 (256 * (smean - smin) / (smean + 1)), edge := edge, time := some t }

/-- The measurement of a zone whose lines are all 0: a flat curve (R74). -/
def flatZone (t : Nat) : Zone := { phase := 0, confidence := 0, edge := false, time := some t }

/-- The zone table after an arrival (R76): all 150 zones, those not listed having lines of zeros. -/
def measureZones (t : Nat) (lines : List PupilLines) : List Zone :=
  let listed := (lines.take Config.zones).map (measureZone t)
  listed ++ List.replicate (Config.zones - listed.length) (flatZone t)

/-- A measurement is in focus (R75). -/
def inFocus (tolerance : Nat) (phase : Int) (edge : Bool) : Bool := phase.natAbs ≤ tolerance && !edge

/-! ### The packing of a raw (R38; log entry 14) -/

/-- The sample of a quad at a row and column of the mosaic: R, G1 on the first row and G2, B on the second (R38). -/
def quadSample (q : Quad) (row column : Nat) : Nat :=
  match row % 2, column % 2 with
  | 0, 0 => q.r
  | 0, _ => q.g1
  | _, 0 => q.g2
  | _, _ => q.b

/-- Sample `t` of a crop window in data order: the rows from the top, each row from left to right (R38). -/
def orderedSample (width : Nat) (quads : List Quad) (t : Nat) : Nat :=
  quadSample (quads.getD (t / width / 2 * (width / 2) + t % width / 2) ⟨0, 0, 0, 0⟩) (t / width) (t % width)

/-- The place in data order of the sample at a row and column of quad `index` (R38). -/
def samplePlace (width index row column : Nat) : Nat :=
  (2 * (index / (width / 2)) + row) * width + (2 * (index % (width / 2)) + column)

/-- The number whose bit `b` is `f b`, below `n` bits. -/
def natOfBits : Nat → (Nat → Bool) → Nat
  | 0, _ => 0
  | n + 1, f => natOfBits n f + if f n then 2 ^ n else 0

/-- The bit of the samples laid end to end in data order that bit `p` of the packed bytes holds. -/
def sampleBit (d : Depth) (p : Nat) : Nat :=
  let g := Config.groupBits d
  g * (p / g) + (Config.bitOrder d).bitAt ⟨p % g, Nat.mod_lt p (Config.groupBits_pos d)⟩

/-- The bit of the packed bytes that holds bit `k` of the samples laid end to end in data order. -/
def packedBit (d : Depth) (k : Nat) : Nat :=
  let g := Config.groupBits d
  g * (k / g) + (Config.bitOrder d).placeOf ⟨k % g, Nat.mod_lt k (Config.groupBits_pos d)⟩

/-- Byte `i` of a raw: its samples in data order, packed at the bit depth (R38, R54). -/
def packedByte (d : Depth) (width : Nat) (quads : List Quad) (i : Nat) : Byte :=
  BitVec.ofNat 8 (natOfBits 8 fun b =>
    let k := sampleBit d (8 * i + b)
    (orderedSample width quads (k / d.bits)).testBit (k % d.bits))

/-- Byte `i` of an object that came from a card (R152). -/
def cardByte (extents : List (List Byte)) (i : Nat) : Byte :=
  (extents.getD (i / Config.extentBytes) []).getD (i % Config.extentBytes) 0

/-- Sample `t` in data order of a raw that came back from a card as packed bytes (R38, R152). -/
def unpackedSample (d : Depth) (extents : List (List Byte)) (t : Nat) : Nat :=
  natOfBits d.bits fun b =>
    let p := packedBit d (d.bits * t + b)
    (cardByte extents (p / 8)).getLsbD (p % 8)

/-! ### The pixel pipeline -/

/-- A quad of a raw in 14-bit units, from the samples of a readout or from the bytes of a card (R124; log
entry 14). -/
def RawData.quad (d : Depth) (width index : Nat) : RawData → Quad
  | .sensor quads => normalizedQuad d (quads.getD index ⟨0, 0, 0, 0⟩)
  | .card extents =>
    let sample (row column : Nat) : Nat := unpackedSample d extents (samplePlace width index row column)
    normalizedQuad d ⟨sample 0 0, sample 0 1, sample 1 0, sample 1 1⟩

/-- White balance, clip and linearization of one channel (R124, steps 2 to 4). -/
def linear (black gain d : Nat) : Nat :=
  let wf := 16 * whiteCode - black
  min 65535 (min (d * gain / 1024) wf * 65535 / wf)

/-- The channels of an output pixel. -/
inductive Channel where
  | r | g | b
  deriving DecidableEq, Repr

/-- The linear value of one channel of a quad (R124). -/
def linearQuad (black : Nat) (g : Gains) (q : Quad) : Channel → Nat
  | .r => linear black g.r (aboveBlack black q.r)
  | .g => linear black g.g ((aboveBlack black q.g1 + aboveBlack black q.g2) / 2)
  | .b => linear black g.b (aboveBlack black q.b)

/-- The quads on a side of the block one output pixel averages (R125). -/
def Output.side : Output → Nat
  | .rendition .half => 1
  | .rendition .quarter => 2
  | .thumb => 10

/-- The width or height of an output from that of the crop window (R125). -/
def Output.extent (o : Output) (n : Nat) : Nat := n / (2 * o.side)

/-- The size in bytes of an output (R125). -/
def Output.size (o : Output) (width height : Nat) : Nat := o.extent width * o.extent height * 3

/-- The tone curve at a linear value (R126). -/
def toneCurve (t : List Nat) (l : Nat) : Nat :=
  let k := l / 4096
  let f := l % 4096
  let a : Int := t.getD k 0
  let b : Int := t.getD (k + 1) 0
  (clampInt 0 255 (a + ((b - a) * f + 2048) / 4096)).toNat

/-- The averaged linear value of one channel of output pixel `(x, y)` (R125). -/
def Recipe.average (r : Recipe) (c : Channel) (x y : Nat) : Nat :=
  let n := r.output.side
  let quadsAcross := r.width / 2
  let values := (List.range n).flatMap fun j => (List.range n).map fun i =>
    linearQuad r.black r.gains (r.source.quad r.depth r.width ((y * n + j) * quadsAcross + (x * n + i))) c
  values.sum / (n * n)

/-- Byte `i` of a developed picture: row by row, each pixel as R, G and B (R125, R126). -/
def Recipe.byteAt (r : Recipe) (i : Nat) : Byte :=
  let across := r.output.extent r.width
  let pixel := i / 3
  let c : Channel := match i % 3 with | 0 => .r | 1 => .g | _ => .b
  BitVec.ofNat 8 (toneCurve r.curve (r.average c (pixel % across) (pixel / across)))

/-- Byte `i` of a picture held in the DRAM. -/
def PictData.byteAt : PictData → Nat → Byte
  | .sensor d width quads, i => packedByte d width quads i
  | .developed r, i => r.byteAt i
  | .card extents, i => cardByte extents i

/-- A run of a picture's bytes. -/
def PictData.bytes (d : PictData) (offset length : Nat) : List Byte :=
  (List.range length).map fun i => d.byteAt (offset + i)

/-- The raw a pass reads, from the content of a raw object. -/
def PictData.asRaw : PictData → RawData
  | .sensor _ _ quads => .sensor quads
  | .card extents => .card extents
  | .developed _ => .sensor []

/-- The gains of a pass: those of the job look, or computed from the frame statistics (R127). The second
component is the shot's WB_FALLBACK flag afterwards. -/
def passGains (look : JobLook) (st : Stats) (width height : Nat) (fallback : Bool) : Gains × Bool :=
  match look.wb with
  | .fixed => (look.gains, fallback)
  | .autoGrey =>
    if st.unclipped < quadCount width height / 100 ∨ st.sr = 0 ∨ st.sb = 0 then (look.gains, true)
    else (⟨clamp 512 8191 (1024 * st.sg / st.sr), 1024, clamp 512 8191 (1024 * st.sg / st.sb)⟩, false)

/-- The time of a pass (R115). -/
def passTime (o : Output) (width height : Nat) : Nat :=
  let full := match o with
    | .thumb => 8000
    | .rendition .half => 60000
    | .rendition .quarter => 40000
  ceilDiv (full * quadCount width height) 6000000

end Sys2Proof.Machine
end

