-- ==== Sys2Proof/Machine/Develop.lean ====
section
/-! DEFINITION. The Development Engine: the develop queue and the engine's passes (Chapter 5), as far as they ask
nothing of the tether queue. -/

namespace Sys2Proof.Machine
open Sys2Proof

/-! ### The queue (R106 to R108) -/

/-- The class of a job: THUMB, urgent RENDITION, other RENDITION (R107). -/
def Job.cls (j : Job) : Nat :=
  match j.kind with
  | .thumb => 0
  | _ => if j.urgent then 1 else 2

/-- A job's place is before another's (R107). -/
def Job.before (j x : Job) : Bool :=
  j.cls < x.cls || (j.cls == x.cls && (j.returned || (!x.returned && j.shot < x.shot)))

/-- A job joins the queue at its place (R107). -/
def insertJob (j : Job) : List Job → List Job
  | [] => [j]
  | x :: xs => if j.before x then j :: x :: xs else x :: insertJob j xs

/-- The outcomes of a request to queue a job (R108). -/
inductive JobOutcome where
  | unfit | merged | present | noRaw | queued
  deriving DecidableEq, Repr

/-- A job of a shot and kind. -/
def Job.is (n : Nat) (k : Pict) (j : Job) : Bool := j.shot == n && j.kind == k

/-- The first job of a shot joins: DEVELOP is placed on a raw that is COMPLETE (R20, R108). -/
def State.placeDevelop (s : State) (i : Nat) : State :=
  if (s.obj i .raw).any (·.complete) then s.place i .raw .develop else s

/-- A job joins the queue (R107, R108). -/
def State.addJob (s : State) (j : Job) : State :=
  let first := !s.jobNames j.shot
  let s1 := s.setDev { s.dev with queue := insertJob j s.dev.queue }
  (if first then s1.placeDevelop j.entry else s1).notify .engineLook

/-- How a request to queue a job is judged (R108). -/
def State.judgeJob (s : State) (n : Nat) (sh : Shot) (k : Pict) : JobOutcome :=
  if sh.reinstated || sh.deleting then .unfit
  else if s.dev.queue.any (Job.is n k) then .merged
  else if k == .thumb && sh.thumb.isSome then .present
  else if k == .rendition && sh.rendition.isSome then .present
  else if sh.raw.isNone && !s.rawRecalled n then .noRaw
  else .queued

/-- A request to queue a job of the entry's shot with a job look; a THUMB job is never urgent (R106, R108). -/
def State.requestJob (s : State) (i : Nat) (k : Pict) (look : JobLook) : State × JobOutcome :=
  match s.shot i with
  | none => (s, .unfit)
  | some sh =>
    match sh.number with
    | none => (s, .unfit)
    | some n =>
      let o := s.judgeJob n sh k
      if o = .queued then
        (s.addJob { entry := i, shot := n, kind := k, look := look, urgent := k == .rendition && sh.urgent,
                    returned := false }, o)
      else (s, o)

/-- The job look of a job made at a raw completion or for TET: the shot's look snapshot (R106). -/
def Shot.jobLook (sh : Shot) : JobLook := sh.look.getD { index := 0, wb := .fixed, gains := ⟨1024, 1024, 1024⟩ }

/-- When no job of a shot is left, DEVELOP is released and the entry checked (R111). -/
def State.jobsGone (s : State) (n : Nat) : State :=
  if s.jobNames n then s
  else match s.entryOf n with
    | none => s
    | some i => (s.releaseHold i .raw .develop).checkRetire i

/-- Jobs leave the queue without a report (R111). -/
def State.dropJobs (s : State) (p : Job → Bool) (n : Nat) : State :=
  (s.setDev { s.dev with queue := s.dev.queue.filter fun j => !p j }).jobsGone n

/-- The queued jobs of a shot that can no longer be given a raw leave the queue (R111). -/
def State.dropOrphanJobs (s : State) (n : Nat) : State :=
  if ((s.committed n).any fun e => e.2.raw.isSome) || s.rawRecalled n || !s.jobNames n then s
  else s.dropJobs (fun j => j.shot == n) n

/-! ### The engine (R112 to R115) -/

/-- A job is ready: its raw is COMPLETE, and a RENDITION job's shot has no rendition (R106). -/
def State.jobReady (s : State) (j : Job) : Bool :=
  (s.shot j.entry).any fun sh =>
    sh.number == some j.shot && sh.raw.any (·.complete) && (j.kind == .thumb || sh.rendition.isNone)

/-- The head: the first ready job in queue order (R112). -/
def State.headJob (s : State) : Option Job := s.dev.queue.find? s.jobReady

/-- The engine waits for the space of the shot's RENDITION job: the head of WAIT_SPACE (R112). -/
def State.waitsFor (s : State) (n : Nat) : Bool :=
  match s.dev.engine with
  | .waitSpace .. => s.headJob.any (Job.is n .rendition)
  | .idle | .thumbPass _ | .renderPass _ => false

/-- The engine looks for a head where an event of R112 has come. -/
def State.lookIf (s : State) (event : Bool) : State := if event then s.notify .engineLook else s

/-- The raw of an entry has completed: the engine looks for a head if jobs are ready by it (R106, R112). -/
def State.jobsReady (s : State) (i : Nat) : State := s.lookIf (s.dev.queue.any fun j => j.entry == i && s.jobReady j)

/-- The look slot a job look names (R115). -/
def State.lookOf (s : State) (l : JobLook) : Look := s.settings.looks.getD l.index Look.factoryFixed

/-- What a pass of a job makes: its scale is read from the look slot at the request (R114). -/
def State.jobOutput (s : State) (j : Job) : Output :=
  if j.kind = .thumb then .thumb else .rendition (s.lookOf j.look).scale

/-- The crop width and height of a shot's exposure snapshot. -/
def Shot.window (sh : Shot) : Nat × Nat :=
  match sh.snapshot with
  | none => (0, 0)
  | some p => (p.crop.width, p.crop.height)

/-- The gains a pass of a job uses, and WB_FALLBACK after it (R127). -/
def Shot.gains (sh : Shot) (look : JobLook) : Gains × Bool :=
  match sh.stats with
  | none => (look.gains, sh.wbFallback)
  | some st => passGains look st sh.window.1 sh.window.2 sh.wbFallback

/-- What a pass reads, fixed at its start (R115). -/
def State.recipe (s : State) (sh : Shot) (j : Job) (o : Output) : Recipe :=
  { source := (sh.raw.map fun r => r.data.asRaw).getD (.sensor []),
    depth := (sh.snapshot.map (·.depth)).getD .d12, width := sh.window.1, height := sh.window.2,
    black := (sh.stats.map (·.black)).getD 0, gains := (sh.gains j.look).1,
    curve := s.settings.curves.getD (s.lookOf j.look).curve [], output := o }

/-- The pass of a job that starts now (R115). -/
def State.newPass (s : State) (sh : Shot) (j : Job) (o : Output) : Pass :=
  { shot := j.shot, entry := j.entry, startTime := s.sup.timeBase,
    endDue := s.sup.elapsed + passTime o sh.window.1 sh.window.2, recipe := s.recipe sh j o }

/-- The engine's state replaced. -/
def State.setEngine (s : State) (e : Engine) : State := s.setDev { s.dev with engine := e }

/-- The start of a pass sets WB_FALLBACK as R127 gives. -/
def State.startPass (s : State) (sh : Shot) (j : Job) : State :=
  s.mapShot j.entry fun x => { x with wbFallback := (sh.gains j.look).2 }

/-- The engine asks for a RENDITION head's extents (R114). -/
def State.takeRendition (s : State) (sh : Shot) (j : Job) : State :=
  let o := s.jobOutput j
  let p := s.newPass sh j o
  let size := o.size sh.window.1 sh.window.2
  match s.reserve j.entry .rendition size .dev (some (s.lookOf j.look).scale) false (.developed p.recipe) with
  | none => s.setEngine (.waitSpace (extentsFor size) s.sbm.freeCount)
  | some s1 =>
    ((s1.mapShot j.entry fun x => { x with cards := { x.cards with renditionA := .none, renditionB := .none } }).startPass
      sh j).setEngine (.renderPass p)

/-- The engine looks for a head (R112). -/
def State.engineLook (s : State) : State :=
  match s.dev.engine with
  | .thumbPass _ | .renderPass _ => s
  | .idle | .waitSpace .. =>
    if s.sup.level != .normal then s
    else match s.headJob with
      | none => s.setEngine .idle
      | some j =>
        match s.shot j.entry with
        | none => s
        | some sh =>
          if j.kind = .thumb then (s.startPass sh j).setEngine (.thumbPass (s.newPass sh j .thumb))
          else s.takeRendition sh j

/-! ### Jobs moved and removed (R109, R120) -/

/-- The active job's shot and kind. -/
def Dev.active (d : Dev) : Option (Nat × Pict) :=
  match d.engine with
  | .thumbPass p => some (p.shot, .thumb)
  | .renderPass p => some (p.shot, .rendition)
  | .idle | .waitSpace .. => none

/-- TAG_SHOT changed URGENT: the shot's queued RENDITION job moves to its place in its new class and loses its
returned mark (R109). An active job stays as it is: that its urgent flag too keeps the value it had is the model's choice
(log entry 63). -/
def State.moveUrgent (s : State) (n : Nat) (urgent : Bool) : State :=
  if s.dev.active == some (n, .rendition) then s
  else match s.dev.queue.find? (Job.is n .rendition) with
    | none => s
    | some j =>
      (s.setDev { s.dev with queue := insertJob { j with urgent := urgent, returned := false }
                                        (s.dev.queue.filter fun x => !Job.is n .rendition x) }).notify .engineLook

/-- DEVELOPED's fields (R116). -/
def developedFields (n i : Nat) (k : Pict) (scale : Option Scale) (look : JobLook) (gains : Option Gains) (fallback : Bool)
    (served : Bool) (kept : Option Bool) : List Byte :=
  le 4 n ++ le 1 i ++ code Pict.all k ++ opt (code Scale.all) scale ++ le 1 look.index ++ code WbMode.all look.wb
    ++ opt (fun g : Gains => le 2 g.r ++ le 2 g.g ++ le 2 g.b) gains ++ flag fallback ++ code [false, true] served
    ++ opt flag kept

end Sys2Proof.Machine
end

