-- ==== Sys2Proof/Machine/Cards.lean ====
section
/-! DEFINITION. The Card Controller (Chapter 6): windows, write jobs, card modes and the queueing of recalls, as far
as they ask nothing of the tether queue. -/

namespace Sys2Proof.Machine
open Sys2Proof

/-! ### Windows and the start of a job (R134 to R138) -/

/-- The pending window becomes the current one (R136). -/
def CardSlot.takePending (c : CardSlot) : CardSlot :=
  match c.pendingWindow with
  | none => c
  | some w => { c with window := some w, cursor := w.start, pendingWindow := none }

/-- A completion leaves the cursor at the window's end: the pending window is taken (R136). -/
def CardSlot.atWindowEnd (c : CardSlot) : CardSlot := if c.remaining = 0 then c.takePending else c

/-- WINDOW_SHORT's fields (R136). -/
def shortFields (sl : Slot) (c : CardSlot) (j : WriteJob) : List Byte :=
  code Slot.all sl ++ le 2 (c.mount.getD 0) ++ le 4 j.shot ++ code Pict.all j.kind ++ le 4 j.blocks ++ le 4 c.remaining

/-- The head job cannot start now (R138). -/
def State.cannotStart (s : State) (sl : Slot) : Bool :=
  let c := s.slot sl
  c.state != .idle || c.readMark || c.recallReserved || s.sup.level == .critical

/-- CRD tries the head job of a slot: it starts, does not fit and makes the slot SHORT, or stays (R136, R138). -/
def State.tryStart (s : State) (sl : Slot) : State :=
  if s.cannotStart sl then s
  else match (s.slot sl).queue with
    | [] => s
    | j :: js =>
      let c := s.slot sl
      let c1 := if c.remaining < j.blocks then c.takePending else c
      if j.blocks ≤ c1.remaining then
        (s.setSlot sl { c1 with state := .writing, queue := { j with start := some c1.cursor } :: js }).setCardStatus
          j.entry j.kind sl .writing
      else (s.setSlot sl { c1 with state := .short }).raise .windowShort (shortFields sl c1 j)

/-- A job joins the tail of a slot's queue and is tried at once on an IDLE slot's empty queue (R137, R144). -/
def State.joinQueue (s : State) (sl : Slot) (j : WriteJob) (try' : State → State) : State :=
  let c := s.slot sl
  let s1 := s.setSlot sl { c with queue := c.queue ++ [j] }
  if c.state == .idle && c.queue.isEmpty then try' s1 else s1

/-- A slot's queue holds a job for an object. -/
def CardSlot.hasJob (c : CardSlot) (i : Nat) (k : Pict) : Bool := c.queue.any fun j => j.entry == i && j.kind == k

/-- A job of slot A moves to B's tail: `left` is A's status, B's becomes QUEUED, CARD_A is released and CARD_B placed
as one step (R13, R18, R145). A queue holds no two jobs for one object (R137), so where B has one already that one
stands (log entry 36). -/
def State.moveJob (s : State) (left : CardStatus) (j : WriteJob) : State :=
  let s1 := (s.setCardStatus j.entry j.kind .a left).mapObj j.entry j.kind
    fun o => { o with holds := (o.holds.set .cardA false).set .cardB true }
  if (s.slot .b).hasJob j.entry j.kind then s1
  else (s1.setCardStatus j.entry j.kind .b .queued).joinQueue .b { j with start := none, written := 0, stop := false }
    fun x => x.tryStart .b

/-- In OVERFLOW with B writable, A's work moves to B (R145). -/
def State.overflows (s : State) : Bool := s.settings.cardMode == .overflow && (s.slot .b).state.writable

/-- A's queued jobs move to B in their order (R145). -/
def State.moveQueue (s : State) : State :=
  s.crd.a.queue.foldl (fun st j => st.moveJob .none j) (s.setSlot .a { s.crd.a with queue := [] })

/-- The try of R138 with the OVERFLOW move that A's SHORT brings (R145). -/
def State.tryHead (s : State) (sl : Slot) : State :=
  let s1 := s.tryStart sl
  if sl == .a && (s1.slot .a).state == .short && (s.slot .a).state == .idle && s1.overflows then s1.moveQueue else s1

/-! ### Card jobs made (R137, R144, R146) -/

/-- The target slots of an object by the mode in force (R144). -/
def State.targets (s : State) (k : Pict) : List Slot :=
  let a := s.crd.a.state
  let b := s.crd.b.state
  match s.settings.cardMode with
  | .mirror => (if a.writable then [.a] else []) ++ (if b.writable then [.b] else [])
  | .split =>
    if k = .raw then (if a.writable then [.a] else []) else (if b.writable then [.b] else [])
  | .overflow =>
    if a.writable && a != .short then [.a] else if b.writable then [.b] else []

/-- A write job for an object is enqueued on a slot: status QUEUED, the card hold placed and UNSAVED released
(R13, R18, R19, R137). -/
def State.enqueueJob (s : State) (i : Nat) (k : Pict) (sl : Slot) : State :=
  match s.shot i, s.obj i k with
  | some sh, some o =>
    let s1 := (s.setCardStatus i k sl .queued).mapObj i k
      fun o => { o with holds := (o.holds.set (cardHold sl) true).set .unsaved false }
    s1.joinQueue sl
      { shot := sh.number.getD 0, entry := i, kind := k, blocks := blocksFor o.size, extents := o.extents.length,
        start := none, written := 0, stop := false } fun x => x.tryHead sl
  | _, _ => s

/-- Jobs are enqueued on every target slot. -/
def State.enqueueOn (s : State) (i : Nat) (k : Pict) (ts : List Slot) : State :=
  ts.foldl (fun st sl => st.enqueueJob i k sl) s

/-- The card jobs of a card-bound object at its completion; UNSAVED when no target is writable (R19, R144). -/
def State.cardJobs (s : State) (i : Nat) (k : Pict) : State :=
  match s.targets k with
  | [] => s.place i k .unsaved
  | ts => s.enqueueOn i k ts

/-- The objects that carry UNSAVED and whose shot is not under a deletion, with their shot numbers (R146). -/
def unsavedOf (e : Nat × Option Shot) : List (Nat × Nat × Pict) :=
  match e with
  | (_, none) => []
  | (i, some sh) =>
    if sh.deleting then []
    else (if sh.raw.any (·.holds.unsaved) then [(sh.number.getD 0, i, Pict.raw)] else [])
      ++ (if sh.rendition.any (·.holds.unsaved) then [(sh.number.getD 0, i, Pict.rendition)] else [])

/-- A swept object put in its place by shot number, after those of its own shot already there. -/
def insertSwept (x : Nat × Nat × Pict) : List (Nat × Nat × Pict) → List (Nat × Nat × Pict)
  | [] => [x]
  | y :: ys => if x.1 < y.1 then x :: y :: ys else y :: insertSwept x ys

/-- The order of the sweep: ascending shot number, the raw before the rendition (R146). -/
def State.sweepOrder (s : State) : List (Nat × Nat × Pict) :=
  ((List.range s.sbm.shots.length).flatMap fun i => unsavedOf (i, s.sbm.shot i)).foldl (fun l x => insertSwept x l) []

/-- The UNSAVED sweep (R146). -/
def State.sweep (s : State) : State :=
  s.sweepOrder.foldl (fun st x => st.enqueueOn x.2.1 x.2.2 (st.targets x.2.2)) s

/-- A card job of an object ends: its status is set, its card hold released, and UNSAVED placed when a card-bound
object is left with no card job and no WRITTEN status (R13, R18, R19). -/
def State.endCardJob (s : State) (i : Nat) (k : Pict) (sl : Slot) (st : CardStatus) : State :=
  let s1 := s.setCardStatus i k sl st
  match s1.shot i, s1.obj i k with
  | some sh, some o =>
    let left := o.holds.set (cardHold sl) false
    let orphan := o.cardBound && !sh.deleting && !left.cardA && !left.cardB && sh.cards.get k .a != .written
      && sh.cards.get k .b != .written
    s1.setHolds i k fun h => (h.set (cardHold sl) false).set .unsaved (h.unsaved || orphan)
  | _, _ => s1

/-- CARD_PARTIAL's fields (R133, R142). `deleted` is the reason: REMOVED or DELETED. -/
def partialFields (deleted : Bool) (sl : Slot) (c : CardSlot) (j : WriteJob) : List Byte :=
  code [false, true] deleted ++ le 4 j.shot ++ code Pict.all j.kind ++ code Slot.all sl ++ le 2 (c.mount.getD 0)
    ++ le 4 (j.start.getD 0) ++ le 4 (c.cursor - j.start.getD 0)

/-- The reasons of CARD_STATE (R132). -/
inductive CardReason where
  | mountError | writeError
  deriving DecidableEq, Repr

/-- CARD_STATE's fields (R132). -/
def cardStateFields (sl : Slot) (st : SlotState) (mount : Nat) (capacity : Option Nat) (reason : Option CardReason)
    (job : Option WriteJob) (cursor dropped : Option Nat) : List Byte :=
  code Slot.all sl ++ code SlotState.all st ++ le 2 mount ++ opt (le 4) capacity
    ++ opt (code [CardReason.mountError, .writeError]) reason ++ opt (le 4) (job.map (·.shot))
    ++ opt (code Pict.all) (job.map (·.kind)) ++ opt (le 4) cursor ++ opt (le 1) dropped

/-- The blocks of the next extent of a job (R139). -/
def WriteJob.extentBlocks (j : WriteJob) : Nat :=
  if j.written + 1 < j.extents then Config.extentBlocks else j.blocks - Config.extentBlocks * (j.extents - 1)

/-- An extent write at the card bus: the blocks it covers, and where its data stands in the object (R139). -/
structure CardWrite where
  start : Nat
  blocks : Nat
  offset : Nat
  size : Nat
  data : PictData
  deriving DecidableEq, Repr

/-- Byte `i` of an extent write: the object's data from the extent's first byte on, and zero beyond the object's size,
so that the last block is filled to 512 bytes (R139). -/
def CardWrite.byteAt (w : CardWrite) (i : Nat) : Byte := if w.offset + i < w.size then w.data.byteAt (w.offset + i) else 0

/-- The bytes an extent write sends, block after block (R139). -/
def CardWrite.bytes (w : CardWrite) : List Byte := (List.range (w.blocks * Config.blockBytes)).map w.byteAt

/-- The write of a job's next extent, in the order of the object's extent list, from the cursor (R139). -/
def WriteJob.extentWrite (j : WriteJob) (cursor : Nat) (o : Obj) : CardWrite :=
  { start := cursor, blocks := j.extentBlocks, offset := j.written * Config.extentBytes, size := o.size, data := o.data }

/-- The extent write under way in a slot, which only a WRITING slot has (R130, R139). -/
def State.extentWrite (s : State) (sl : Slot) : Option CardWrite :=
  let c := s.slot sl
  if c.state = .writing then c.queue.head?.bind fun j => (s.obj j.entry j.kind).map (j.extentWrite c.cursor) else none

/-- The blocks of the next extent of a recall: the last extent takes the remainder (R152). -/
def Recall.extentBlocks (r : Recall) : Nat :=
  if r.read + 1 < extentsFor r.size then Config.extentBlocks else r.blocks - Config.extentBlocks * (extentsFor r.size - 1)

/-- The run of the next extent of a recall, from its start block on (R152). -/
def Recall.extentRun (r : Recall) : Window := { start := r.start + Config.extentBlocks * r.read, length := r.extentBlocks }

/-- The blocks the extent read under way in a slot covers, which only a slot with its read mark set has (R151, R152). -/
def State.readingRun (s : State) (sl : Slot) : Option Window :=
  let c := s.slot sl
  if c.readMark then (c.recalls.head?.filter (·.state == .reading)).map Recall.extentRun else none

/-! ### Recalls queued and withdrawn (R147, R149) -/

/-- The outcomes of a recall request (R147). -/
inductive RecallOutcome where
  | unfit | present | merged (slot : Slot) | notFound | notMounted | full | queued (slot : Slot)
  deriving DecidableEq, Repr

/-- A recall of a shot and kind. -/
def Recall.is (n : Nat) (k : Pict) (r : Recall) : Bool := r.shot == n && r.kind == k

/-- A requester is added to a recall (R147). -/
def Recall.addRequester (host : Bool) (item : Option Nat) (r : Recall) : Recall :=
  { r with host := r.host || host,
           items := match item with
                    | none => r.items
                    | some m => if r.items.contains m then r.items else r.items ++ [m] }

/-- The slot holds a recall of the shot and kind. -/
def CardSlot.hasRecall (n : Nat) (k : Pict) (c : CardSlot) : Bool := c.recalls.any (Recall.is n k)

/-- A requester joins the slot's recall of the shot and kind. -/
def CardSlot.mergeRecall (n : Nat) (k : Pict) (host : Bool) (item : Option Nat) (c : CardSlot) : CardSlot :=
  { c with recalls := c.recalls.map fun r => if Recall.is n k r then r.addRequester host item else r }

/-- An index entry whose slot is readable and holds the card it was written to (R147). -/
def State.mountedEntry (s : State) (e : IndexEntry) : Bool :=
  (s.slot e.slot).state.readable && (s.slot e.slot).mount == some e.mount

/-- The shot fields a recall copies when it is queued (R149). -/
def State.shotFields (s : State) (n : Nat) (e : IndexEntry) : ShotFields :=
  let newest := (s.newestIndex n).getD e
  let has (k : Pict) (sl : Slot) : Bool := s.sbm.cardIndex.any fun x => x.shot == n && x.kind == k && x.slot == sl
  { startTime := newest.startTime, verdict := newest.verdict, urgent := newest.urgent, picked := newest.picked,
    rating := newest.rating, rawA := has .raw .a, rawB := has .raw .b, renditionA := has .rendition .a,
    renditionB := has .rendition .b }

/-- A recall joins a slot's queue in WAITING (R149). -/
def State.queueRecall (s : State) (e : IndexEntry) (host : Bool) (item : Option Nat) : State :=
  let c := s.slot e.slot
  let r : Recall :=
    { shot := e.shot, kind := e.kind, scale := e.scale, mount := e.mount, start := e.start, blocks := e.blocks,
      size := e.size, fields := s.shotFields e.shot e, host := host, items := item.toList, state := .waiting,
      entry := none, read := 0, retry := 0, stop := false }
  (s.setSlot e.slot { c with recalls := c.recalls ++ [r] }).notify (.recallAsk e.slot)

/-- A recall request is judged (R147). -/
def State.requestRecall (s : State) (n : Nat) (k : Pict) (host : Bool) (item : Option Nat) : State × RecallOutcome :=
  let entry := s.committed n
  if entry.any (·.2.deleting) then (s, .unfit)
  else if entry.any (fun e => (e.2.obj k).isSome) then (s, .present)
  else if s.crd.a.hasRecall n k then (s.setSlot .a (s.crd.a.mergeRecall n k host item), .merged .a)
  else if s.crd.b.hasRecall n k then (s.setSlot .b (s.crd.b.mergeRecall n k host item), .merged .b)
  else match s.indexOf n k with
    | [] => (s, .notFound)
    | es =>
      match es.filter s.mountedEntry with
      | [] => (s, .notMounted)
      | ms =>
        match ms.find? fun e => (s.slot e.slot).recalls.length < Config.recalls with
        | none => (s, .full)
        | some e => (s.queueRecall e host item, .queued e.slot)

/-- A recall has left a queue: SBM checks the entry, and DEV is told of a raw's (R111, R149). -/
def State.recallGone (s : State) (n : Nat) (k : Pict) : State :=
  (if k = .raw then s.dropOrphanJobs n else s).checkRetireShot n

/-- An item is taken out of a recall's requesters. -/
def Recall.without (m : Nat) (r : Recall) : Recall := { r with items := r.items.filter (· != m) }

/-- A WAITING recall that only this item waited for. -/
def Recall.onlyFor (m : Nat) (r : Recall) : Bool :=
  r.state == .waiting && !r.host && r.items.contains m && r.items.all (· == m)

/-- An item is withdrawn from a slot's recalls; a WAITING recall left with no requester leaves (R149, R190). No other
item is looked for again at that (log entry 33). -/
def State.withdrawIn (s : State) (m : Nat) (sl : Slot) : State :=
  let c := s.slot sl
  let gone := c.recalls.filter (Recall.onlyFor m)
  let s1 := s.setSlot sl { c with recalls := (c.recalls.filter fun r => !r.onlyFor m).map (Recall.without m) }
  if gone.isEmpty then s1
  else gone.foldl (fun st r => st.recallGone r.shot r.kind) (s1.notify (.recallAsk sl))

/-- An item is withdrawn from every recall that names it as a requester. -/
def State.withdraw (s : State) (m : Nat) : State := (s.withdrawIn m .a).withdrawIn m .b

end Sys2Proof.Machine
end

