-- ==== Sys2Proof/Machine/Tether.lean ====
section
/-! DEFINITION. The Tether Controller: the parts of the link that the queue acts on (Chapter 7) and the tether
queue (Chapter 8). Frames taken from and sent to the station are in Relay.lean. -/

namespace Sys2Proof.Machine
open Sys2Proof

/-! ### The transmit list and the link state (R159, R164) -/

/-- A control frame joins the transmit list; in DOWN it is discarded unsent (R159). -/
def State.pushTx (s : State) (f : RelayFrame) : State :=
  if s.tet.state = .down then s else s.setTet { s.tet with tx := s.tet.tx ++ [f] }

/-- TETHER_STATE's fields, from the link as it stands and the state before (R164). -/
def linkFields (t : Tet) (old : LinkState) (cause : LinkCause) : List Byte :=
  code LinkState.all t.state ++ code LinkState.all old ++ le 2 t.tec ++ le 1 t.recErrors
    ++ opt (code StationStatus.all) t.status ++ code LinkCause.all cause

/-- TETHER_STATE raised (R164). -/
def State.reportLink (s : State) (old : LinkState) (cause : LinkCause) : State :=
  s.raise .tetherState (linkFields s.tet old cause)

/-- The resume segment a transfer leaves its item (R175). -/
def Transfer.resume (t : Transfer) : Nat :=
  match t.state with
  | .sending => t.acked
  | .offered => t.offered

/-- The items after a transfer is returned (R175). -/
def returnedItems (t : Transfer) (items : List Item) : List Item :=
  items.map fun x => if x.number == t.item then { x with state := .ready, resume := some t.resume } else x

/-- The active transfer is returned to the queue, with or without a CANCEL (R175). -/
def State.returnTransfer (s : State) (cancel : Bool) : State :=
  match s.tet.transfer with
  | none => s
  | some t =>
    let s1 := s.setTet { s.tet with transfer := none, items := returnedItems t s.tet.items }
    (if cancel then s1.pushTx (.cancel t.id) else s1).notify .linkAsk

/-- The active transfer is cancelled with its item's removal (R175). -/
def State.cancelTransfer (s : State) : State :=
  match s.tet.transfer with
  | none => s
  | some t => ((s.setTet { s.tet with transfer := none }).pushTx (.cancel t.id)).notify .linkAsk

/-- The link enters another state: CUT ends the transfer and starts the rejoin count at 0 (R164, R165). -/
def State.enterLink (s : State) (new : LinkState) (cause : LinkCause) : State :=
  let old := s.tet.state
  let s1 := s.setTet { s.tet with state := new }
  let s2 := if new = .cut then (s1.setTet { s1.tet with rejoin := 0 }).returnTransfer true else s1
  (s2.reportLink old cause).notify .linkAsk

/-- The link state judged again from the counters (R164). -/
def State.judgeLink (s : State) (cause : LinkCause) : State :=
  if s.tet.carrier && s.tet.heard then
    (if linkJudged s.tet.tec s.tet.recErrors = s.tet.state then s
     else s.enterLink (linkJudged s.tet.tec s.tet.recErrors) cause)
  else s

/-- TEC rises by 8 (R163). -/
def State.raiseTec (s : State) : State := (s.setTet { s.tet with tec := min 263 (s.tet.tec + 8) }).judgeLink .counters

/-- TEC falls by 1 (R163). -/
def State.lowerTec (s : State) : State := (s.setTet { s.tet with tec := s.tet.tec - 1 }).judgeLink .counters

/-- REC rises by 1 at a bad frame, which also ends a run of counted beacons (R163, R165). -/
def State.badFrame (s : State) : State :=
  (s.setTet { s.tet with recErrors := min 255 (s.tet.recErrors + 1), rejoin := 0 }).judgeLink .counters

/-- REC falls by 1 at a good frame (R163). -/
def State.goodFrame (s : State) : State :=
  (s.setTet { s.tet with recErrors := s.tet.recErrors - 1 }).judgeLink .counters

/-! ### Items (R180 to R183, R189) -/

/-- The outcomes of a request to make an item, in the order of R201. -/
inductive ItemOutcome where
  | ready | waitDevelop | waitRecall | merged | unfit | notFound | notMounted | noRoom | queueFull
  deriving DecidableEq, Repr

/-- The reasons of TETHER_DECLINED, in the order of R174. -/
inductive DeclineReason where
  | declined | noSpace | notFound | notMounted | noRoom | recallFailed | unfit
  deriving DecidableEq, Repr

/-- R174. -/
def DeclineReason.all : List DeclineReason := [.declined, .noSpace, .notFound, .notMounted, .noRoom, .recallFailed, .unfit]

/-- The item of a number. -/
def Tet.item (t : Tet) (m : Nat) : Option Item := t.items.find? (·.number == m)

/-- An item of a shot and kind. -/
def Item.is (n : Nat) (k : Pict) (x : Item) : Bool := x.shot == n && x.kind == k

/-- An item that waits for its picture. -/
def Item.waiting (x : Item) : Bool := x.state == .waitDevelop || x.state == .waitRecall

/-- An item changed in place. -/
def State.mapItem (s : State) (m : Nat) (f : Item → Item) : State :=
  s.setTet { s.tet with items := s.tet.items.map fun x => if x.number == m then f x else x }

/-- TETHER_DECLINED's fields (R174). -/
def declinedFields (item : Option Nat) (n : Nat) (k : Pict) (origin : Origin) (rule transfer : Option Nat)
    (reason : DeclineReason) : List Byte :=
  opt (le 4) item ++ le 4 n ++ code Pict.all k ++ code Origin.all origin ++ opt (le 1) rule ++ opt (le 2) transfer
    ++ code DeclineReason.all reason

/-- TETHER_DECLINED raised and counted (R174, R202). -/
def State.decline (s : State) (item : Option Nat) (n : Nat) (k : Pict) (origin : Origin) (rule transfer : Option Nat)
    (reason : DeclineReason) : State :=
  (s.setTet { s.tet with declined := next32 s.tet.declined }).raise .tetherDeclined
    (declinedFields item n k origin rule transfer reason)

/-- An item in READY or SENDING names its object, which holds TETHER (R21). -/
def State.placeTether (s : State) (n : Nat) (k : Pict) : State :=
  match s.entryOf n with
  | none => s
  | some i => s.place i k .tether

/-- What a READY item brings: TETHER on its object, and the link and the preemption judged (R181, R188). -/
def State.itemReady (s : State) (n : Nat) (k : Pict) : State := ((s.placeTether n k).notify .linkAsk).notify .preempt

/-- What an item's removal leaves behind: TETHER is released, the item leaves its recalls, and the entry is checked
(R21, R149, R181). -/
def State.itemGone (s : State) (x : Item) : State :=
  let s1 := match s.entryOf x.shot with
    | none => s
    | some i => s.releaseHold i x.kind .tether
  (s1.withdraw x.number).checkRetireShot x.shot

/-- An item is removed; a SENDING item's transfer is cancelled (R175, R181, R195). -/
def State.removeItem (s : State) (x : Item) : State :=
  let s1 := s.setTet { s.tet with items := s.tet.items.filter fun y => y.number != x.number }
  (if x.state = .sending then s1.cancelTransfer else s1).itemGone x

/-- The item number counter after an item (R180). -/
def nextItemNumber (n : Nat) : Nat := if n = 4294967295 then 1 else n + 1

/-- The shot's URGENT flag; a shot with no committed entry has the one of its newest card index entry (R182, R189;
log entry 18). -/
def State.urgentShot (s : State) (n : Nat) : Bool :=
  match s.committed n with
  | some e => e.2.urgent
  | none => (s.newestIndex n).any (·.urgent)

/-- A priority raised for URGENT (R189). -/
def State.raisedPriority (s : State) (n priority : Nat) : Nat :=
  if s.urgentShot n then max priority s.settings.tether.urgentLevel else priority

/-- A deadline that has come expires once the request has been told (R191; log entry 17). -/
def State.notifyExpired (s : State) (m : Nat) (deadline : Option Nat) : State :=
  if deadline.any fun d => d ≤ s.sup.timeBase then s.notify (.expire m) else s

/-- A new item takes the counters and joins the queue (R180, R181). -/
def State.makeItem (s : State) (n : Nat) (k : Pict) (priority : Nat) (deadline : Option Nat) (policy : Policy)
    (origin : Origin) (st : ItemState) : State :=
  let x : Item :=
    { number := s.tet.nextItem, shot := n, entry := s.entryOf n, kind := k, priority := priority, seq := s.tet.nextSeq,
      deadline := deadline, policy := policy, origin := origin, state := st, resume := none, overdue := false }
  let s1 := s.setTet { s.tet with items := s.tet.items ++ [x], nextItem := nextItemNumber s.tet.nextItem,
                                  nextSeq := (s.tet.nextSeq + 1) % 2 ^ 64 }
  let s2 := s1.notifyExpired x.number deadline
  if st = .ready then s2.itemReady n k else s2

/-- The earlier of two deadlines, with the policy that came with it (R183). -/
def mergeDeadline (own : Option Nat) (ownPolicy : Policy) (asked : Option Nat) (askedPolicy : Policy) : Option Nat × Policy :=
  match own, asked with
  | _, none => (own, ownPolicy)
  | none, some d => (some d, askedPolicy)
  | some e, some d => if d < e then (some d, askedPolicy) else (some e, ownPolicy)

/-- An item after a request merged into it; the asked priority has been raised for URGENT (R183). -/
def Item.merge (x : Item) (priority : Nat) (deadline : Option Nat) (policy : Policy) : Item :=
  { x with priority := max x.priority priority, deadline := (mergeDeadline x.deadline x.policy deadline policy).1,
           policy := (mergeDeadline x.deadline x.policy deadline policy).2 }

/-- An item's priority has been set: a rise is judged for preemption (R183, R188, R189). -/
def State.judgeRise (s : State) (old new : Nat) (waiting : Bool) : State :=
  if old < new && !waiting then s.notify .preempt else s

/-- A request merges into an item (R183). -/
def State.mergeItem (s : State) (x : Item) (priority : Nat) (deadline : Option Nat) (policy : Policy) : State :=
  let y := x.merge priority deadline policy
  ((s.mapItem x.number fun _ => y).notifyExpired x.number y.deadline).judgeRise x.priority y.priority x.waiting

/-- Every item of a shot is raised to the urgent level (R189). -/
def State.raiseItems (s : State) (n : Nat) : State :=
  let level := s.settings.tether.urgentLevel
  let risen := s.tet.items.any fun x => x.shot == n && !x.waiting && x.priority < level
  let s1 := s.setTet { s.tet with items := s.tet.items.map fun x =>
                                    if x.shot == n then { x with priority := max x.priority level } else x }
  if risen then s1.notify .preempt else s1

/-! ### Finding the picture (R184, R185) -/

/-- A complete or filling object's outcome for an item that finds it (R184, R185). -/
def Obj.outcome (o : Obj) : ItemOutcome :=
  if o.complete then .ready else if o.producer = .crd then .waitRecall else .waitDevelop

/-- A recall's outcome as an item's (R185). -/
def State.recallOutcome (s : State) (n : Nat) (k : Pict) : RecallOutcome → ItemOutcome
  | .queued _ | .merged _ => .waitRecall
  | .present => (((s.committed n).bind fun e => e.2.obj k).map Obj.outcome).getD .notFound
  | .notFound => .notFound
  | .notMounted => .notMounted
  | .full => .noRoom
  | .unfit => .unfit

/-- A recall asked for an item (R185). -/
def State.recallFor (s : State) (n : Nat) (k : Pict) (m : Nat) : State × ItemOutcome :=
  let r := s.requestRecall n k false (some m)
  (r.1, s.recallOutcome n k r.2)

/-- The card index holds an entry of the shot and kind. -/
def State.indexed (s : State) (n : Nat) (k : Pict) : Bool := !(s.indexOf n k).isEmpty

/-- The last recall row of R184: the raw is recalled for the item, and a RENDITION job asked for. -/
def State.recallToDevelop (s : State) (i n : Nat) (sh : Shot) (m : Nat) : State × ItemOutcome :=
  let r := s.requestRecall n .raw false (some m)
  match r.2 with
  | .queued _ | .merged _ => ((r.1.requestJob i .rendition sh.jobLook).1, .waitDevelop)
  | o => (r.1, s.recallOutcome n .raw o)

/-- The rows of R184 for a RENDITION whose shot has no rendition object and for which DEV queues no job. -/
def State.findRendition (s : State) (i n : Nat) (sh : Shot) (m : Nat) : State × ItemOutcome :=
  if s.indexed n .rendition then s.recallFor n .rendition m
  else if !sh.reinstated && s.indexed n .raw then s.recallToDevelop i n sh m
  else (s, .notFound)

/-- R184 for a committed BUFFERED shot, and R185 for its raw. `m` is the item's number. -/
def State.findCommitted (s : State) (i n : Nat) (sh : Shot) (k : Pict) (m : Nat) : State × ItemOutcome :=
  match k with
  | .thumb =>
    if sh.thumb.isSome then (s, .ready)
    else
      let r := s.requestJob i .thumb sh.jobLook
      match r.2 with
      | .queued | .merged => (r.1, .waitDevelop)
      | .present => (r.1, .ready)
      | .unfit | .noRaw => (r.1, .notFound)
  | .rendition =>
    match sh.rendition with
    | some o => (s, o.outcome)
    | none =>
      if sh.raw.any (·.complete) || s.rawRecalled n then
        let r := s.requestJob i .rendition sh.jobLook
        match r.2 with
        | .queued | .merged => (r.1, .waitDevelop)
        | .present | .unfit | .noRaw => r.1.findRendition i n sh m
      else s.findRendition i n sh m
  | .raw =>
    match sh.raw with
    | some o => (s, o.outcome)
    | none => s.recallFor n .raw m

/-- The picture of an item looked for (R184, R185). -/
def State.findPicture (s : State) (n : Nat) (k : Pict) (m : Nat) : State × ItemOutcome :=
  match s.committed n with
  | some (i, sh) => s.findCommitted i n sh k m
  | none =>
    match k with
    | .thumb => (s, .notFound)
    | .rendition | .raw => if s.indexed n k then s.recallFor n k m else (s, .notFound)

/-- The item state of an outcome that makes an item. -/
def ItemOutcome.state : ItemOutcome → Option ItemState
  | .ready => some .ready
  | .waitDevelop => some .waitDevelop
  | .waitRecall => some .waitRecall
  | .merged | .unfit | .notFound | .notMounted | .noRoom | .queueFull => none

/-- A committed entry that is not fit for an item (R182). -/
def Shot.unfit (sh : Shot) : Bool := sh.state != .buffered || sh.deleting

/-- A request to make an item is judged (R182). The priority has been clamped. -/
def State.requestItem (s : State) (n : Nat) (k : Pict) (priority : Nat) (deadline : Option Nat) (policy : Policy)
    (origin : Origin) : State × ItemOutcome :=
  if (s.committed n).any fun e => e.2.unfit then (s, .unfit)
  else
    let p := s.raisedPriority n priority
    match s.tet.items.find? (Item.is n k) with
    | some x => (s.mergeItem x p deadline policy, .merged)
    | none =>
      if Config.items ≤ s.tet.items.length then (s, .queueFull)
      else
        let r := s.findPicture n k s.tet.nextItem
        match r.2.state with
        | none => r
        | some st => (r.1.makeItem n k p deadline policy origin st, r.2)

/-! ### Items told of their pictures (R186) -/

/-- The items of a shot and kind that wait enter READY at the completion of their picture (R186). -/
def State.itemsReady (s : State) (n : Nat) (k : Pict) : State :=
  if s.tet.items.any fun x => x.is n k && x.waiting then
    (s.setTet { s.tet with items := s.tet.items.map fun x =>
                             if x.is n k && x.waiting then { x with state := .ready, entry := s.entryOf n } else x }).itemReady n k
  else s

/-- The reason a failed look gives (R186). -/
def ItemOutcome.reason : ItemOutcome → DeclineReason
  | .notMounted => .notMounted
  | .noRoom => .noRoom
  | .unfit => .unfit
  | .ready | .waitDevelop | .waitRecall | .merged | .notFound | .queueFull => .notFound

/-- A waiting item whose object was abandoned is looked for again (R186). -/
def State.relookItem (s : State) (x : Item) : State :=
  let r := s.findPicture x.shot x.kind x.number
  match r.2.state with
  | none =>
    (r.1.decline (some x.number) x.shot x.kind x.origin none none r.2.reason).removeItem x
  | some st =>
    let s1 := r.1.mapItem x.number fun y => { y with state := st, entry := s.entryOf x.shot }
    if st = .ready then s1.itemReady x.shot x.kind else s1

/-- The waiting items of a shot that an abandoned object, or the raw their picture was to come from, leaves without
one (R186; log entry 33). -/
def Item.bereft (n : Nat) (k : Pict) (x : Item) : Bool :=
  x.shot == n && x.waiting && (x.kind == k || (k == .raw && x.state == .waitDevelop))

/-- Each such item is looked for again (R186). -/
def State.relookItems (s : State) (n : Nat) (k : Pict) : State :=
  (s.tet.items.filter (Item.bereft n k)).foldl State.relookItem s

/-- An item a failed recall names is removed with TETHER_DECLINED while it waits; one that another producer's
completion has made READY waits for the recall no longer (R149, R181, R186). -/
def State.failItem (s : State) (m : Nat) : State :=
  match s.tet.item m with
  | none => s
  | some x => if x.waiting then (s.decline (some m) x.shot x.kind x.origin none none .recallFailed).removeItem x else s

/-! ### Selection, start and preemption (R167, R168, R187, R188) -/

/-- An item goes before another in the order of R187. -/
def Item.before (x y : Item) : Bool := y.priority < x.priority || (x.priority == y.priority && x.seq < y.seq)

/-- An item put in its place in the order of R187. -/
def insertItem (x : Item) : List Item → List Item
  | [] => [x]
  | y :: ys => if x.before y then x :: y :: ys else y :: insertItem x ys

/-- The READY items in the order R187 hands them over. -/
def Tet.readyOrder (t : Tet) : List Item := (t.items.filter (·.state == .ready)).foldr insertItem []

/-- An item the link may start now, as far as RESTRICTED narrows it (R160). -/
def State.admits (s : State) (x : Item) : Bool :=
  s.tet.state != .restricted || s.settings.tether.urgentLevel ≤ x.priority

/-- The item the queue hands over (R187). -/
def State.selectItem (s : State) : Option Item := s.tet.readyOrder.find? s.admits

/-- The picture of an item: its size, scale and content (R157). -/
def State.picture (s : State) (n : Nat) (k : Pict) : Option (Nat × Option Scale × PictData) :=
  (s.committed n).bind fun e =>
    match k with
    | .thumb => e.2.thumb.map fun t => (t.size, none, t.data)
    | .rendition => e.2.rendition.map fun o => (o.size, o.scale, o.data)
    | .raw => e.2.raw.map fun o => (o.size, none, o.data)

/-- The OFFER of a transfer (R157, R168). -/
def Transfer.offerFrame (t : Transfer) : RelayFrame := .offer t.id t.shot t.kind t.scale t.size t.priority t.offered

/-- The ack timer set now (R168). -/
def State.ackDueNow (s : State) : Nat := s.sup.elapsed + 1000 * s.settings.tether.ackTimeout

/-- A transfer of an item as it starts (R167, R168). -/
def State.newTransfer (s : State) (x : Item) (size : Nat) (scale : Option Scale) : Transfer :=
  { id := s.tet.nextId, item := x.number, shot := x.shot, kind := x.kind, scale := scale, size := size,
    priority := x.priority, segments := segmentsFor size, offered := x.resume.getD 0, state := .offered,
    acked := x.resume.getD 0, next := x.resume.getD 0, mark := x.resume.getD 0, credit := 0,
    ackDue := some s.ackDueNow, offers := 1 }

/-- A transfer starts (R168, R187; log entry 22). -/
def State.startTransfer (s : State) (x : Item) : State :=
  let p := (s.picture x.shot x.kind).getD (0, none, .card [])
  let t := s.newTransfer x p.1 p.2.1
  let s1 := s.mapItem x.number fun y => { y with state := .sending, resume := none }
  ((s1.setTet { s1.tet with transfer := some t, nextId := if s.tet.nextId = 65535 then 1 else s.tet.nextId + 1 }).pushTx
    t.offerFrame).notify .preempt

/-- The link asks the queue for an item (R167). -/
def State.linkAsk (s : State) : State :=
  if s.linkFree then
    match s.selectItem with
    | none => s
    | some x => s.startTransfer x
  else s

/-- A READY item that preempts a SENDING item of a priority (R188). -/
def State.preempts (s : State) (priority : Nat) (y : Item) : Bool :=
  y.state == .ready && priority + 8 ≤ y.priority && s.tet.status == some .opened && s.admits y

/-- Preemption judged (R188). -/
def State.preempt (s : State) : State :=
  match s.tet.items.find? (·.state == .sending) with
  | none => s
  | some x => if s.tet.items.any (s.preempts x.priority) then s.returnTransfer true else s

/-! ### Deadlines (R190) -/

/-- TETHER_OVERDUE's fields (R190). -/
def overdueFields (x : Item) (deadline : Nat) : List Byte :=
  le 4 x.number ++ le 4 x.shot ++ code Pict.all x.kind ++ le 8 deadline ++ code ItemState.all x.state

/-- The acknowledged index of a SENDING item (R190, R195). -/
def State.ackedOf (s : State) (x : Item) : Option Nat :=
  if x.state = .sending then s.tet.transfer.map (·.acked) else none

/-- An item's deadline expires, unless it has not come or a KEEP item has expired before (R190). -/
def State.expireItem (s : State) (m : Nat) : State :=
  match s.tet.item m with
  | none => s
  | some x =>
    match x.deadline with
    | none => s
    | some d =>
      if s.sup.timeBase < d then s
      else match x.policy with
        | .keep =>
          if x.overdue then s
          else (s.mapItem m fun y => { y with overdue := true }).raise .tetherOverdue (overdueFields x d)
        | .drop =>
          (((s.setTet { s.tet with expired := next32 s.tet.expired }).raise .tetherExpired
            (overdueFields x d ++ opt (le 4) (s.ackedOf x)))).removeItem x

/-- Every deadline the time base has passed expires, in queue order (R191, R204). -/
def State.expirePassed (s : State) : State := (s.tet.items.map (·.number)).foldl State.expireItem s

/-! ### Send rules (R192, R193) -/

/-- A rule matches a shot (R193). -/
def SendRule.matchesShot (r : SendRule) (sh : Shot) : Bool :=
  match r.matching with
  | .none => false
  | .all => true
  | .picked => sh.picked
  | .confirmed => sh.verdict == .confirmed
  | .urgent => sh.urgent

/-- What a rule's request leaves behind: a made or merged item, or a report (R182). -/
def State.tellRule (s : State) (n : Nat) (k : Pict) (index : Nat) (o : ItemOutcome) : State :=
  match o with
  | .ready | .waitDevelop | .waitRecall | .merged | .unfit => s
  | .notFound | .notMounted | .noRoom => s.decline none n k .rule (some index) none o.reason
  | .queueFull =>
    (s.setTet { s.tet with queueFull := next32 s.tet.queueFull }).raise .tetherQueueFull
      (le 4 n ++ code Pict.all k ++ le 1 index)

/-- A matching rule asks for its item (R193). -/
def State.applyRule (s : State) (n start : Nat) (r : SendRule) (index : Nat) : State :=
  let q := s.requestItem n r.kind r.priority (r.offset.map fun ms => start + 1000 * ms) r.policy .rule
  q.1.tellRule n r.kind index q.2

/-- One rule evaluated for the shot of an entry, if `which` selects its match (R193). -/
def State.evaluateRule (s : State) (i index : Nat) (r : SendRule) (which : RuleMatch → Bool) : State :=
  match s.shot i with
  | none => s
  | some sh =>
    match sh.number with
    | none => s
    | some n => if which r.matching && r.matchesShot sh then s.applyRule n sh.startTime r index else s

/-- The send rules evaluated for the shot of an entry, 0 then 1 (R193). -/
def State.evaluateRules (s : State) (i : Nat) (which : RuleMatch → Bool) : State :=
  (s.evaluateRule i 0 s.settings.rule0 which).evaluateRule i 1 s.settings.rule1 which

end Sys2Proof.Machine
end

