-- ==== Sys2Proof/Machine/Recalls.lean ====
section
/-! DEFINITION. The Card Controller's recalls as they reserve, read, complete and fail, and its slots' events:
mounting, removal, extent writes and the slot's failure (Chapter 6). -/

namespace Sys2Proof.Machine
open Sys2Proof

/-! ### A RENDITION job served by a recall (R117) -/

/-- The queued RENDITION job of a shot whose rendition a recall completed is removed as served (R117). Its report gives
the recalled rendition's scale and the shot record's WB_FALLBACK (log entry 53). -/
def State.serveJob (s : State) (n : Nat) : State :=
  match s.dev.queue.find? (Job.is n .rendition), s.committed n with
  | some j, some (i, sh) =>
    let s1 := (s.setDev { s.dev with served := next32 s.dev.served }).raise .developed
      (developedFields n i .rendition (sh.rendition.bind (·.scale)) j.look none sh.wbFallback true (some true))
    s1.dropJobs (Job.is n .rendition) n
  | _, _ => s

/-! ### Reservation (R11, R149, R150) -/

/-- The head recall of a slot replaced. -/
def CardSlot.setHead (c : CardSlot) (r : Recall) : CardSlot := { c with recalls := r :: c.recalls.drop 1 }

/-- A recall taken out of its slot's queue. -/
def State.unqueueRecall (s : State) (sl : Slot) (r : Recall) : State :=
  let c := s.slot sl
  s.setSlot sl { c with recalls := c.recalls.filter fun x => !Recall.is r.shot r.kind x }

/-- A card status of a reinstated shot (R13). -/
def writtenIf (b : Bool) : CardStatus := if b then .written else .none

/-- The record of a reinstated shot (R11, R12). -/
def reinstatedShot (n : Nat) (f : ShotFields) : Shot :=
  { state := .buffered, number := some n, startTime := f.startTime, snapshot := none, stats := none,
    verdict := f.verdict, lensPosition := none, zone := none, flash := none, urgent := f.urgent, picked := f.picked,
    rating := f.rating, look := none, wbFallback := false, thumb := none, raw := none, rendition := none,
    cards := { rawA := writtenIf f.rawA, rawB := writtenIf f.rawB, renditionA := writtenIf f.renditionA,
               renditionB := writtenIf f.renditionB },
    reinstated := true, deleting := false }

/-- A shot is reinstated in an entry, and its items learn the entry index (R11, R180). -/
def State.reinstate (s : State) (i n : Nat) (f : ShotFields) : State :=
  let s1 := s.setSbm (s.sbm.put i (some (reinstatedShot n f)))
  s1.setTet { s1.tet with items := s1.tet.items.map fun x => if x.shot == n then { x with entry := some i } else x }

/-- The recall's extents are granted in an entry: RESERVED (R150). Where the recall is of the rendition whose job a
WAIT_SPACE engine waits for, that job is no longer ready and the engine looks again (R106, R112; log entry 61). -/
def State.reserveRecall (s : State) (sl : Slot) (r : Recall) (i : Nat) : Option State :=
  (s.reserve i r.kind r.size .crd r.scale false (.card [])).map fun s1 =>
    (s1.setSlot sl ((s1.slot sl).setHead { r with state := .reserved, entry := some i, read := 0, retry := 0 })).lookIf
      (r.kind == .rendition && s.waitsFor r.shot)

/-- The outcomes of RECALL_DONE (R150, R152). -/
inductive RecallEnd where
  | done | served
  deriving DecidableEq, Repr

/-- RECALL_DONE's fields (R152). -/
def recallDoneFields (r : Recall) (sl : Slot) (i : Nat) (e : RecallEnd) (reinstated kept : Bool) : List Byte :=
  le 4 r.shot ++ code Pict.all r.kind ++ code Slot.all sl ++ le 2 r.mount ++ le 1 i ++ code [RecallEnd.done, .served] e
    ++ flag reinstated ++ flag kept

/-- A recall whose object is already in the buffer completes as served (R150; log entry 21). -/
def State.serveRecall (s : State) (sl : Slot) (r : Recall) (i : Nat) (sh : Shot) (o : Obj) : State :=
  let s1 := if r.host then s.place i r.kind .host else s
  let s2 := if o.complete then s1.itemsReady r.shot r.kind else s1
  ((s2.raise .recallDone (recallDoneFields r sl i .served sh.reinstated true)).unqueueRecall sl r).recallGone r.shot r.kind

/-- The head WAITING recall asks SBM for its extents once; `true` says that it was served and a new head stands
(R150). -/
def State.askOnce (s : State) (sl : Slot) (r : Recall) : State × Bool :=
  match s.committed r.shot with
  | some (i, sh) =>
    match sh.obj r.kind with
    | some o => (s.serveRecall sl r i sh o, true)
    | none => ((s.reserveRecall sl r i).getD s, false)
  | none =>
    match s.sbm.freeEntry with
    | none => (s, false)
    | some i =>
      if extentsFor r.size ≤ s.sbm.freeCount then
        (((s.reinstate i r.shot r.fields).reserveRecall sl r i).getD s, false)
      else (s, false)

/-- The head recall asks, and the next after each that is served. -/
def State.askHeads (s : State) (sl : Slot) : Nat → State
  | 0 => s
  | k + 1 =>
    match (s.slot sl).recalls with
    | [] => s
    | r :: _ =>
      if r.state = .waiting then
        let q := s.askOnce sl r
        if q.2 then q.1.askHeads sl k else q.1
      else s

/-- The head recall in WAITING asks for its extents while the level is not CRITICAL (R150, R154). -/
def State.askHead (s : State) (sl : Slot) : State := if s.draining then s else s.askHeads sl Config.recalls

/-- The states in which a ready recall's read begins at once (R151). -/
def SlotState.readsAtOnce : SlotState → Bool
  | .locked | .idle | .short | .suspended => true
  | .absent | .mounting | .writing | .failed => false

/-- The head recall's read begins (R151). -/
def CardSlot.beginRead (c : CardSlot) : CardSlot :=
  match c.recalls with
  | [] => c
  | r :: rs => { c with readMark := true, recalls := { r with state := .reading } :: rs }

/-- A ready recall reads where the slot allows (R151, R154). -/
def State.recallServe (s : State) (sl : Slot) : State :=
  let c := s.slot sl
  if c.recallReserved && !c.readMark && c.state.readsAtOnce && !s.draining then s.setSlot sl c.beginRead else s

/-- The work a notice asks of a slot's recalls: ask for extents, then read (R150, R151). -/
def State.recallAsk (s : State) (sl : Slot) : State := (s.askHead sl).recallServe sl

/-! ### The end of a read, a completion, a failure (R151 to R153) -/

/-- A read has ended and its recall has left: the next recall, or the write, goes on (R151, R154). -/
def State.readEnds (s : State) (sl : Slot) : State :=
  let s1 := (s.setSlot sl { s.slot sl with readMark := false }).askHead sl
  let c := s1.slot sl
  if c.recallReserved && !s1.draining then s1.setSlot sl c.beginRead
  else if c.state = .suspended then s1.setSlot sl { c with state := .writing }
  else s1.tryHead sl

/-- SBM replaces FILL at a recall's completion (R24). A raw makes its shot's jobs ready; a removal of the object is a
space announcement (R3, R112). -/
def State.completeRecalled (s : State) (i n : Nat) (k : Pict) (host : Bool) : State :=
  let s1 := s.mapObj i k fun o => { o with complete := true, holds := o.holds.set .host (o.holds.host || host) }
  let s2 := s1.itemsReady n k
  let s3 := if k = .raw && s2.jobNames n then s2.place i .raw .develop else s2
  let s4 := s3.releaseHold i k .fill
  if k = .rendition && (s4.obj i k).isSome then s4.serveJob n else if k = .raw then s4.jobsReady i else s4

/-- A recall completes (R152). -/
def State.completeRecall (s : State) (sl : Slot) (r : Recall) (i : Nat) : State :=
  let reinstated := (s.shot i).any (·.reinstated)
  let s1 := s.completeRecalled i r.shot r.kind r.host
  let s2 := s1.raise .recallDone (recallDoneFields r sl i .done reinstated (s1.obj i r.kind).isSome)
  ((s2.unqueueRecall sl r).recallGone r.shot r.kind).readEnds sl

/-- The reasons of RECALL_FAILED (R153). -/
inductive RecallReason where
  | readError | removed | failed | deleted
  deriving DecidableEq, Repr

/-- R153. -/
def RecallReason.all : List RecallReason := [.readError, .removed, .failed, .deleted]

/-- RECALL_FAILED's fields (R153). -/
def recallFailedFields (r : Recall) (sl : Slot) (e : RecallReason) : List Byte :=
  le 4 r.shot ++ code Pict.all r.kind ++ code Slot.all sl ++ le 2 r.mount ++ code RecallReason.all e

/-- The object of a recall that fails is abandoned (R16, R153). -/
def State.abandonRecalled (s : State) (r : Recall) : State :=
  match r.entry with
  | none => s
  | some i => s.removeObj i r.kind

/-- A recall fails and leaves its queue (R111, R153, R186). A deletion removes the shot's items itself and without
reports (R195), so it fails no item here and nothing is looked for again (log entry 40). -/
def State.failRecall (s : State) (sl : Slot) (e : RecallReason) (r : Recall) : State :=
  let s1 := (s.unqueueRecall sl r).raise .recallFailed (recallFailedFields r sl e)
  let s2 := (if e = .deleted then s1 else r.items.foldl State.failItem s1).abandonRecalled r
  let s3 := if r.kind = .raw then s2.dropOrphanJobs r.shot else s2
  let s4 := if e = .deleted then s3 else s3.relookItems r.shot r.kind
  (s4.checkRetireShot r.shot).notify (.recallAsk sl)

/-- Every recall of a slot fails (R133, R141). -/
def State.failRecalls (s : State) (sl : Slot) (e : RecallReason) : State :=
  (s.slot sl).recalls.foldl (fun st r => st.failRecall sl e r) s

/-- The blocks a card gave for an extent join what the object holds, in data order (R152). -/
def Obj.addExtent (run : Window) (data : List Byte) (o : Obj) : Obj :=
  match o.data with
  | .card extents => { o with data := .card (extents ++ [data.take (Config.blockBytes * run.length)]) }
  | .sensor .. | .developed _ => o

/-- An extent has been read, and the recall completes with its last one (R152; log entry 54). -/
def State.extentArrived (s : State) (sl : Slot) (r : Recall) (i : Nat) (data : List Byte) : State :=
  let s1 := s.mapObj i r.kind (Obj.addExtent r.extentRun data)
  let r1 := { r with read := r.read + 1, retry := 0 }
  let s2 := s1.setSlot sl ((s1.slot sl).setHead r1)
  if r1.read < extentsFor r.size then s2 else s2.completeRecall sl r1 i

/-- An extent read ends (R152, R153; log entry 20). -/
def State.extentRead (s : State) (sl : Slot) (success : Bool) (data : List Byte) : State :=
  let c := s.slot sl
  match c.recalls with
  | [] => s
  | r :: _ =>
    if !c.readMark || r.state != .reading then s
    else match r.entry with
      | none => s
      | some i =>
        if r.stop then (s.failRecall sl .deleted r).readEnds sl
        else if success then s.extentArrived sl r i data
        else if r.retry + 1 < 3 then s.setSlot sl (c.setHead { r with retry := r.retry + 1 })
        else (s.failRecall sl .readError r).readEnds sl

/-! ### Extent writes (R139 to R142) -/

/-- The card index entry of a completed job (R26). -/
def indexEntryOf (c : CardSlot) (sl : Slot) (j : WriteJob) (sh : Shot) (o : Obj) : IndexEntry :=
  { shot := j.shot, startTime := sh.startTime, kind := j.kind, scale := o.scale, slot := sl, mount := c.mount.getD 0,
    start := j.start.getD 0, blocks := j.blocks, size := o.size, verdict := sh.verdict, urgent := sh.urgent,
    picked := sh.picked, rating := sh.rating }

/-- CARD_WRITTEN's fields (R140). -/
def writtenFields (c : CardSlot) (sl : Slot) (j : WriteJob) : List Byte :=
  le 4 j.shot ++ code Pict.all j.kind ++ code Slot.all sl ++ le 2 (c.mount.getD 0) ++ le 4 (j.start.getD 0) ++ le 4 j.blocks

/-- The slot's head job has ended: it leaves the queue and the slot becomes IDLE. -/
def CardSlot.jobOver (c : CardSlot) : CardSlot := { c with state := .idle, queue := c.queue.drop 1 }

/-- The slot is IDLE after a job: a ready recall reads, or the next head is tried (R138, R151). -/
def State.slotFree (s : State) (sl : Slot) : State := (s.recallServe sl).tryHead sl

/-- A card index entry is added for a completed job (R26, R140). -/
def State.indexJob (s : State) (sl : Slot) (j : WriteJob) : State :=
  match s.shot j.entry, s.obj j.entry j.kind with
  | some sh, some o => s.setSbm (s.sbm.addIndex (indexEntryOf (s.slot sl) sl j sh o))
  | _, _ => s

/-- The last extent is written and the job completes (R140). -/
def State.completeJob (s : State) (sl : Slot) (j : WriteJob) : State :=
  let s1 := ((s.setCardStatus j.entry j.kind sl .written).indexJob sl j).raise .cardWritten (writtenFields (s.slot sl) sl j)
  let s2 := s1.setSlot sl (s1.slot sl).jobOver.atWindowEnd
  (s2.endCardJob j.entry j.kind sl .written).slotFree sl

/-- An active job stops for a deletion (R142). -/
def State.stopJob (s : State) (sl : Slot) (j : WriteJob) : State :=
  let s1 := s.raise .cardPartial (partialFields true sl (s.slot sl) j)
  let s2 := s1.setSlot sl (s1.slot sl).jobOver
  (s2.endCardJob j.entry j.kind sl .abandoned).slotFree sl

/-- The slot suspends its write and the ready recall reads (R151). -/
def CardSlot.suspend (c : CardSlot) : CardSlot := { c with state := .suspended }.beginRead

/-- The extent boundary after a successful write (R139; log entries 19 and 54). -/
def State.boundary (s : State) (sl : Slot) (j : WriteJob) : State :=
  if j.stop then s.stopJob sl j
  else if j.written < j.extents then
    (if (s.slot sl).recallReserved && !s.draining then s.setSlot sl (s.slot sl).suspend else s)
  else s.completeJob sl j

/-- The active job's object moves to B at A's failure or removal (R145); a shot under deletion gets no job (R144). -/
def State.moveActive (s : State) (left : CardStatus) (j : WriteJob) : State :=
  if j.stop then s.endCardJob j.entry j.kind .a left else s.moveJob left j

/-- A slot's jobs end or move when it fails or loses its card: the active one, then the queued ones (R133, R141,
R145). -/
def State.endJobs (s : State) (sl : Slot) (left : CardStatus) (active queued : List WriteJob) : State :=
  if sl = .a && s.overflows then
    queued.foldl (fun st j => st.moveJob .none j) (active.foldl (fun st j => st.moveActive left j) s)
  else (active ++ queued).foldl (fun st j => st.endCardJob j.entry j.kind sl left) s

/-- The active job of a slot, and the queued ones. -/
def CardSlot.jobs (c : CardSlot) : List WriteJob × List WriteJob :=
  if c.state = .writing || c.state = .suspended then (c.queue.take 1, c.queue.drop 1) else ([], c.queue)

/-- The number of queued jobs a failure drops (R141). -/
def State.droppedCount (s : State) (sl : Slot) : Nat :=
  if sl = .a && s.overflows then 0 else (s.slot sl).jobs.2.length

/-- A FAILED slot's record: its jobs and windows are gone; its recalls are failed next (R141). -/
def CardSlot.failedSlot (c : CardSlot) (retry : Nat) : CardSlot :=
  { c with state := .failed, queue := [], window := none, pendingWindow := none, cursor := 0, retry := retry }

/-- The third failed attempt at one extent: the slot fails (R141). -/
def State.failSlot (s : State) (sl : Slot) (j : WriteJob) : State :=
  let c := s.slot sl
  let s1 := (s.setSlot sl (c.failedSlot 3)).endJobs sl .failed c.jobs.1 c.jobs.2
  let s2 := s1.raise .cardState
    (cardStateFields sl .failed (c.mount.getD 0) none (some .writeError) (some j) (some c.cursor) (some (s.droppedCount sl)))
  (s2.failRecalls sl .failed).sweep

/-- An extent write ends (R139). -/
def State.extentWritten (s : State) (sl : Slot) (success : Bool) : State :=
  let c := s.slot sl
  if c.state = .writing then
    match c.queue with
    | [] => s
    | j :: js =>
      if success then
        let j1 := { j with written := j.written + 1 }
        (s.setSlot sl { c with cursor := c.cursor + j.extentBlocks, queue := j1 :: js, retry := 0 }).boundary sl j1
      else if c.retry + 1 < 3 then s.setSlot sl { c with retry := c.retry + 1 }
      else s.failSlot sl j
  else s

/-! ### Mounting and removal (R132, R133) -/

/-- CARD_STATE raised for a change of mounting or removal (R132, R133). -/
def State.reportSlot (s : State) (sl : Slot) (st : SlotState) (mount : Nat) (capacity : Option Nat)
    (reason : Option CardReason) : State :=
  s.raise .cardState (cardStateFields sl st mount capacity reason none none none)

/-- A card is detected in an ABSENT slot (R132). -/
def State.insertCard (s : State) (sl : Slot) : State :=
  if (s.slot sl).state = .absent then
    let m := s.crd.mountCounter
    let s1 := s.setCrd { s.crd with mountCounter := if m = 65535 then 1 else m + 1 }
    (s1.setSlot sl { CardSlot.absent with state := .mounting, mount := some m, mountDue := some (s.sup.elapsed + 1000000) }).reportSlot
      sl .mounting m none none
  else s

/-- The card completes its initialization (R132). -/
def State.mountCard (s : State) (sl : Slot) (capacity : Nat) (writeProtected : Bool) : State :=
  let c := s.slot sl
  if c.state = .mounting then
    let st : SlotState := if writeProtected then .locked else .idle
    let s1 := (s.setSlot sl { c with state := st, capacity := some capacity, mountDue := none }).reportSlot sl st
      (c.mount.getD 0) (some capacity) none
    if writeProtected then s1 else s1.sweep
  else s

/-- The initialization fails or times out (R132). -/
def State.failMount (s : State) (sl : Slot) : State :=
  let c := s.slot sl
  if c.state = .mounting then
    (s.setSlot sl { c with state := .failed, mountDue := none }).reportSlot sl .failed (c.mount.getD 0) none (some .mountError)
  else s

/-- CARD_PARTIAL for the active job of a card that leaves (R133). -/
def State.reportPartial (s : State) (sl : Slot) (c : CardSlot) (j : WriteJob) : State :=
  s.raise .cardPartial (partialFields false sl c j)

/-- The card leaves its slot (R133). -/
def State.removeCard (s : State) (sl : Slot) : State :=
  let c := s.slot sl
  if c.state = .absent then s
  else
    let s1 := (s.setSlot sl { CardSlot.absent with recalls := c.recalls }).reportSlot sl .absent (c.mount.getD 0) none none
    let s2 := c.jobs.1.foldl (fun st j => st.reportPartial sl c j) s1
    ((s2.endJobs sl .abandoned c.jobs.1 c.jobs.2).failRecalls sl .removed).sweep

/-! ### Windows and power (R135, R154) -/

/-- GRANT_WINDOW taken with the values used (R135). -/
def State.grant (s : State) (sl : Slot) (w : Window) : State :=
  let c := s.slot sl
  if c.state = .idle || c.state = .short then
    ((s.setSlot sl { c with state := .idle, window := some w, cursor := w.start }).tryHead sl).sweep
  else s.setSlot sl { c with pendingWindow := some w }

/-- A slot resumes when the level leaves CRITICAL: its head recall asks and reads before its head job is tried (R154; log
entry 59). -/
def State.resumeSlot (s : State) (sl : Slot) : State := (s.recallAsk sl).tryHead sl

/-! ### Deletion (R30, R142, R153) -/

/-- A job of a slot that a deletion removes from the queue. -/
def State.removeJob (s : State) (sl : Slot) (j : WriteJob) : State :=
  let c := s.slot sl
  (s.setSlot sl { c with queue := c.queue.filter fun x => !(x.entry == j.entry && x.kind == j.kind) }).endCardJob j.entry
    j.kind sl .abandoned

/-- The active job of a deleted shot is asked to stop: at the next boundary in WRITING, at once in SUSPENDED (R142). -/
def State.stopActive (s : State) (sl : Slot) (j : WriteJob) : State :=
  let c := s.slot sl
  if c.state = .suspended then s.stopJob sl j
  else s.setSlot sl { c with queue := c.queue.map fun x =>
                                if x.entry == j.entry && x.kind == j.kind then { x with stop := true } else x }

/-- A recall of a deleted shot: it fails at once, or stops when its extent read ends (R153). -/
def State.deleteRecall (s : State) (sl : Slot) (r : Recall) : State :=
  if r.state = .reading then
    s.setSlot sl { s.slot sl with recalls := (s.slot sl).recalls.map fun x =>
                                     if Recall.is r.shot r.kind x then { x with stop := true } else x }
  else s.failRecall sl .deleted r

/-- One slot's part of a deletion (R30). -/
def State.deleteOnSlot (s : State) (n : Nat) (sl : Slot) : State :=
  let c := s.slot sl
  let s1 := (c.jobs.2.filter (·.shot == n)).foldl (fun st j => st.removeJob sl j) s
  let s2 := (c.recalls.filter (·.shot == n)).foldl (fun st r => st.deleteRecall sl r) s1
  (c.jobs.1.filter (·.shot == n)).foldl (fun st j => st.stopActive sl j) s2

end Sys2Proof.Machine
end

