-- ==== Sys2Proof/Machine/Passes.lean ====
section
/-! DEFINITION. The completions of raws and renditions (R23, R24), the end and the abandonment of a develop pass
(Chapter 5), a deletion, and what a change of the power level does to the blocks (R207). -/

namespace Sys2Proof.Machine
open Sys2Proof

/-! ### A raw completes (R23, R110) -/

/-- Renditions are card-bound: the content is RAW_AND_RENDITION or the mode SPLIT (R18). -/
def Settings.bindsRenditions (g : Settings) : Bool := g.cardContent == .rawAndRendition || g.cardMode == .split

/-- A raw completion calls for a RENDITION job (R110). -/
def State.autoRendition (s : State) (sh : Shot) : Bool := (s.lookOf sh.jobLook).auto || s.settings.bindsRenditions

/-- The develop jobs of a raw completion (R110). -/
def State.completionJobs (s : State) (i : Nat) : State :=
  match s.shot i with
  | none => s
  | some sh =>
    let s1 := (s.requestJob i .thumb sh.jobLook).1
    if s.autoRendition sh then (s1.requestJob i .rendition sh.jobLook).1 else s1

/-- The completion holds of a raw made by CAP: CRD's jobs, DEV's jobs, the send rules, and FILL and RING replaced (R23,
R144, R193). The entry is BUFFERED. -/
def State.completeRaw (s : State) (i : Nat) : State :=
  let s1 := s.mapObj i .raw fun o => { o with complete := true, cardBound := true }
  let s2 := ((s1.cardJobs i .raw).completionJobs i).evaluateRules i fun _ => true
  (s2.setHolds i .raw fun h => (h.set .fill false).set .ring false).jobsReady i

/-! ### The ends of passes (R116, R117) -/

/-- The active job of a pass. -/
def State.passJob (s : State) (p : Pass) (k : Pict) : Option Job := s.dev.queue.find? (Job.is p.shot k)

/-- DEVELOPED raised with outcome DONE and counted (R116, R128). -/
def State.reportPass (s : State) (p : Pass) (k : Pict) (scale : Option Scale) (kept : Option Bool) : State :=
  match s.passJob p k, s.shot p.entry with
  | some j, some sh =>
    (s.setDev { s.dev with completed := next32 s.dev.completed }).raise .developed
      (developedFields p.shot p.entry k scale j.look (some p.recipe.gains) sh.wbFallback false kept)
  | _, _ => s

/-- The job of a pass leaves the queue and the engine looks for the next head (R111, R112, R116). -/
def State.endPass (s : State) (p : Pass) (k : Pict) : State :=
  ((s.setEngine .idle).dropJobs (Job.is p.shot k) p.shot).notify .engineLook

/-- The thumbnail a THUMB pass makes (R25). -/
def passThumb (p : Pass) : Thumb :=
  { width := Output.thumb.extent p.recipe.width, height := Output.thumb.extent p.recipe.height,
    size := Output.thumb.size p.recipe.width p.recipe.height, data := .developed p.recipe }

/-- A THUMB pass completes (R116). -/
def State.completeThumb (s : State) (p : Pass) : State :=
  let s1 := s.mapShot p.entry fun sh => { sh with thumb := some (passThumb p) }
  ((s1.itemsReady p.shot .thumb).reportPass p .thumb none none).endPass p .thumb

/-- FILL of a rendition replaced at its completion (R18, R24). -/
def State.completeRendition (s : State) (i n : Nat) : State :=
  let bound := s.settings.bindsRenditions
  let s1 := s.mapObj i .rendition fun o => { o with complete := true, cardBound := bound }
  let s2 := if bound then s1.cardJobs i .rendition else s1
  (s2.itemsReady n .rendition).releaseHold i .rendition .fill

/-- The scale of a rendition output. -/
def Output.scale : Output → Option Scale
  | .thumb => none
  | .rendition s => some s

/-- A RENDITION pass completes (R117). -/
def State.completeRender (s : State) (p : Pass) : State :=
  let s1 := s.completeRendition p.entry p.shot
  (s1.reportPass p .rendition p.recipe.output.scale (some (s1.obj p.entry .rendition).isSome)).endPass p .rendition

/-! ### Abandonment (R119, R120) -/

/-- The partial rendition of a pass is abandoned (R16). -/
def State.abandonRendition (s : State) (p : Pass) : State := s.removeObj p.entry .rendition

/-- A job goes back to the head of its class with the returned mark (R107, R119). -/
def State.returnJob (s : State) (n : Nat) (k : Pict) : State :=
  match s.dev.queue.find? (Job.is n k) with
  | none => s
  | some j =>
    s.setDev { s.dev with queue := insertJob { j with returned := true } (s.dev.queue.filter fun x => !Job.is n k x),
                          engine := .idle, abandoned := next32 s.dev.abandoned }

/-- The running pass is abandoned at CRITICAL power (R119, R186). -/
def State.abandonPass (s : State) : State :=
  match s.dev.engine with
  | .thumbPass p => s.returnJob p.shot .thumb
  | .renderPass p => ((s.returnJob p.shot .rendition).abandonRendition p).relookItems p.shot .rendition
  | .idle | .waitSpace .. => s

/-- The active job of a deleted shot is abandoned and removed (R120). -/
def State.deletePass (s : State) (n : Nat) : State :=
  match s.dev.engine with
  | .thumbPass p =>
    if p.shot = n then s.setDev { s.dev with engine := .idle, abandoned := next32 s.dev.abandoned } else s
  | .renderPass p =>
    if p.shot = n then
      (s.setDev { s.dev with engine := .idle, abandoned := next32 s.dev.abandoned }).abandonRendition p
    else s
  | .idle | .waitSpace .. => s

/-- DEV's part of a deletion (R120). -/
def State.deleteJobs (s : State) (n : Nat) : State :=
  if s.jobNames n then ((s.deletePass n).dropJobs (fun j => j.shot == n) n).notify .engineLook else s

/-! ### Deletion (R30, R195) -/

/-- The queue side removes the items of a deleted shot; the SENDING one is cancelled (R30, R195). -/
def State.deleteItems (s : State) (n : Nat) : State := (s.tet.items.filter (·.shot == n)).foldl State.removeItem s

/-- HOST and UNSAVED are released from an object (R30). -/
def State.releaseKept (s : State) (i : Nat) (k : Pict) : State :=
  s.setHolds i k fun h => (h.set .host false).set .unsaved false

/-- The one step of DELETE_SHOT on a BUFFERED entry (R30); the order in which its objects give back their extents is log
entry 48. -/
def State.deleteShot (s : State) (i n : Nat) : State :=
  let s1 := s.mapShot i fun sh => { sh with deleting := true }
  let s2 := ((s1.deleteOnSlot n .a).deleteOnSlot n .b).deleteJobs n
  (((s2.deleteItems n).releaseKept i .raw).releaseKept i .rendition).checkRetireShot n

/-! ### Power levels (R64, R118, R119, R154, R175, R207) -/

/-- POWER_LEVEL's fields (R207). -/
def powerFields (s : State) (before : Option PowerLevel) : List Byte :=
  code PowerLevel.all s.sup.level ++ opt (code PowerLevel.all) before ++ le 2 s.sup.reading ++ le 2 s.settings.low
    ++ le 2 s.settings.critical

/-- DEV's part of a change of level (R118, R119). -/
def State.levelToDev (s : State) : State :=
  match s.sup.level with
  | .normal => s.notify .engineLook
  | .low =>
    match s.dev.engine with
    | .waitSpace .. => s.setEngine .idle
    | .idle | .thumbPass _ | .renderPass _ => s
  | .critical =>
    match s.dev.engine with
    | .waitSpace .. => s.setEngine .idle
    | .idle | .thumbPass _ | .renderPass _ => s.abandonPass

/-- CRD's part of a change of level: the slots resume when it leaves CRITICAL (R154). -/
def State.levelToCrd (s : State) (before : PowerLevel) : State :=
  if before = .critical then (s.resumeSlot .a).resumeSlot .b else s

/-- TET's part of a change of level (R167, R175). -/
def State.levelToTet (s : State) (before : PowerLevel) : State :=
  if s.sup.level = .critical then s.returnTransfer true
  else if before = .critical then s.notify .linkAsk else s

/-- The level changes: POWER_LEVEL is raised and the blocks are told (R207; log entry 6). -/
def State.setLevel (s : State) (new : PowerLevel) : State :=
  let before := s.sup.level
  if new = before then s
  else
    let s1 := s.setSup { s.sup with level := new }
    ((((s1.raise .powerLevel (powerFields s1 (some before))).notify .evaluate).levelToDev).levelToCrd before).levelToTet before

end Sys2Proof.Machine
end

