-- ==== Sys2Proof/Machine/Focus.lean ====
section
/-! DEFINITION. The Focus Unit: the zone choice (Chapter 3), the focus states, the lens line, prediction and the
focus gate (Chapter 4). -/

namespace Sys2Proof.Machine
open Sys2Proof

/-! ### The zone choice (R68, R79, R81 to R85) -/

/-- The column of a zone (R68). -/
def zoneColumn (z : Nat) : Nat := z % 15
/-- The row of a zone (R68). -/
def zoneRow (z : Nat) : Nat := z / 15

/-- The area contains a zone (R79). -/
def Area.contains (a : Area) (z : Nat) : Bool :=
  a.left ≤ zoneColumn z && zoneColumn z < a.left + a.width && a.top ≤ zoneRow z && zoneRow z < a.top + a.height

/-- The magnitude of the difference of two naturals. -/
def apart (m n : Nat) : Nat := (m - n) + (n - m)

/-- The Chebyshev distance of a zone from the area's centre, in half-zone units (R82). -/
def Area.distance (a : Area) (z : Nat) : Nat :=
  max (apart (2 * zoneColumn z + 1) (2 * a.left + a.width)) (apart (2 * zoneRow z + 1) (2 * a.top + a.height))

/-- The record of a zone. -/
def Foc.zone (f : Foc) (z : Nat) : Zone := f.zones.getD z Zone.unmeasured

/-- A zone is eligible (R81). -/
def State.eligible (s : State) (z : Nat) : Bool :=
  s.settings.af.area.contains z && s.settings.af.minConf ≤ (s.foc.zone z).confidence && !(s.foc.zone z).edge

/-- The eligible zones in ascending number (R81). -/
def State.eligibleZones (s : State) : List Nat := (List.range Config.zones).filter s.eligible

/-- A zone is chosen before another of a higher number (R82). -/
def State.chosenOver (s : State) (z best : Nat) : Bool :=
  let c := (s.foc.zone z).confidence
  let d := (s.foc.zone best).confidence
  d < c || (c == d && s.settings.af.area.distance z < s.settings.af.area.distance best)

/-- The choice among zones in ascending number (R82). -/
def State.bestZone (s : State) : List Nat → Option Nat
  | [] => none
  | z :: zs => some (zs.foldl (fun best y => if s.chosenOver y best then y else best) z)

/-- Two zones are the same or neighbours (R84). -/
def near (z y : Nat) : Bool := apart (zoneColumn z) (zoneColumn y) ≤ 1 && apart (zoneRow z) (zoneRow y) ≤ 1

/-- The zone choice with the tracking preference (R82, R84). -/
def State.chooseZone (s : State) : Option Nat :=
  let all := s.eligibleZones
  match s.settings.af.mode, s.foc.selected with
  | .continuous, some sel =>
    match all.filter (near sel.zone) with
    | [] => s.bestZone all
    | close => s.bestZone close
  | _, _ => s.bestZone all

/-- A choice is made in this state (R83). -/
def FocusState.chooses : FocusState → Bool
  | .searching | .driving | .tracking | .lost | .fault => true
  | .idle | .locked | .failed => false

/-! ### Entries to IDLE and SEARCHING (R87, R88) -/

/-- The entry to IDLE (R88). -/
def Foc.toIdle (f : Foc) : Foc :=
  { f with state := .idle, selected := none, pendingTarget := none, history := [], lostTime := none, sweep := none }

/-- A new sweep (R90). -/
def Sweep.start : Sweep := { dir := .far, reversed := false }

/-- The entry to SEARCHING; in SINGLE a sweep runs there (R87, R90). -/
def Foc.toSearching (f : Foc) (mode : AfMode) : Foc :=
  { f with state := .searching, sweep := if mode = .single then some Sweep.start else none }

/-- The focus state follows whether focus is active (R87, R88). -/
def State.refreshFocus (s : State) : State :=
  if s.focusActive then
    (if s.foc.state = .idle then s.setFoc (s.foc.toSearching s.settings.af.mode) else s)
  else
    match s.foc.state with
    | .idle | .fault => s
    | .searching | .driving | .locked | .tracking | .lost | .failed => s.setFoc s.foc.toIdle

/-! ### The lens line (R96 to R101) -/

/-- A quotient by 4,096 rounded to nearest, ties away from zero (R96). -/
def steps (phase : Int) (gain : Nat) : Int :=
  let m := (phase.natAbs * gain + 2048) / 4096
  if phase < 0 then -(m : Int) else m

/-- A target inside the lens record's limits. -/
def Lens.clampTarget (l : Lens) (z : Int) : Nat := (clampInt l.near l.far z).toNat

/-- The measured target of a phase (R96). -/
def Lens.measuredTarget (l : Lens) (position : Nat) (phase : Int) : Nat := l.clampTarget (position + steps phase l.gain)

/-- A pair joins the history (R97). -/
def pushHistory (h : List (Nat × Nat)) (p : Nat × Nat) : List (Nat × Nat) := (if h.length < 4 then h else h.drop 1) ++ [p]

/-- The predicted target from the oldest and newest pairs and the next opportunity; the lead is 0 for an opportunity
that is not after the newest pair (R97). -/
def Lens.predict (l : Lens) (t0 pos0 t3 pos3 tNext : Nat) : Nat :=
  let v : Int := Int.tdiv (((pos3 : Int) - pos0) * 1000000) ((t3 : Int) - t0)
  let lead := tNext - t3
  let raw := (pos3 : Int) + Int.tdiv (v * lead) 1000000
  l.clampTarget (clampInt ((pos3 : Int) - l.maxPredict) ((pos3 : Int) + l.maxPredict) raw)

/-- A moment of elapsed time as R97 compares it with the readings of a history: its reading of the time base, and 0 for
a moment before the base's 0 (after a SET_TIME back), which is after no reading. -/
def State.readingOf (s : State) (moment : Nat) : Nat :=
  if s.sup.elapsed ≤ moment then s.timeOf moment else s.sup.timeBase - (s.sup.elapsed - moment)

/-- CAP's scheduled next opportunity on the time base, in BURST (R97). -/
def State.nextOpportunity (s : State) : Option Nat :=
  if s.cap.drive = .burst then s.cap.frame.map fun f => s.readingOf f.opp else none

/-- The predicted target, when prediction applies to a history the new pair has joined (R97). -/
def State.prediction (s : State) (l : Lens) (h : List (Nat × Nat)) : Option Nat :=
  match s.nextOpportunity, h with
  | some tNext, [(t0, pos0), _, _, (t3, pos3)] => if t0 + 20000 ≤ t3 then some (l.predict t0 pos0 t3 pos3 tNext) else none
  | _, _ => none

/-- A MOVE is sent (R98). -/
def State.sendMove (s : State) (target : Nat) (kind : MoveKind) : State :=
  s.setFoc { s.foc with line := some { target := target, attempt := 1, answerDue := s.sup.elapsed + 50000 },
                        lastMove := some kind }

/-- A target is offered to the lens line (R98). -/
def State.offer (s : State) (target : Nat) (kind : MoveKind) : State :=
  match s.foc.line with
  | none => if s.foc.position = some target then s else s.sendMove target kind
  | some m =>
    if target = m.target then s
    else match s.foc.pendingTarget with
      | none => s.setFoc { s.foc with pendingTarget := some (target, kind) }
      | some p =>
        if target = p.1 then s
        else s.setFoc { s.foc with pendingTarget := some (target, kind), superseded := next32 s.foc.superseded }

/-! ### The outcomes of a choice (R89 to R92) -/

/-- FOCUS_LOCKED's fields (R89). -/
def lockedFields (c : Selected) (position : Nat) : List Byte :=
  le 1 c.zone ++ twos 2 c.phase ++ le 1 c.confidence ++ le 2 position ++ le 8 c.time

/-- The lens position as a number; it is present whenever focus is active (R94). -/
def Foc.at (f : Foc) : Nat := f.position.getD 0

/-- CHOSEN in SINGLE (R89). -/
def State.singleChosen (s : State) (l : Lens) (c : Selected) (focused : Bool) : State :=
  if focused then
    (if s.foc.line.isSome then s.setFoc { s.foc with state := .driving, pendingTarget := none, sweep := none }
     else (s.setFoc { s.foc with state := .locked, pendingTarget := none, sweep := none }).raise .focusLocked
       (lockedFields c s.foc.at))
  else
    (s.setFoc { s.foc with state := .driving, sweep := none }).offer (l.measuredTarget s.foc.at c.phase) .measured

/-- The direction, reversed mark and target of a sweep step, the target within the limits from whatever position the
lens reported; `none` is a sweep that has failed (R90, R96). -/
def Sweep.step (w : Sweep) (l : Lens) (position step : Nat) : Option (Sweep × Nat) :=
  let towardNear := l.clampTarget ((position : Int) - step)
  match w.dir with
  | .far =>
    if position < l.far then some (w, l.clampTarget (position + step))
    else some ({ dir := .near, reversed := true }, towardNear)
  | .near => if l.near < position then some (w, towardNear) else none

/-- FOCUS_FAILED's fields (R90). -/
def failedFields (position count : Nat) : List Byte := le 2 position ++ le 4 count

/-- One sweep step at an outcome NONE in SEARCHING in SINGLE (R90). -/
def State.sweepStep (s : State) (l : Lens) : State :=
  if s.foc.line.isSome then s
  else
    match (s.foc.sweep.getD Sweep.start).step l s.foc.at s.settings.af.searchStep with
    | some (w, target) => (s.setFoc { s.foc with sweep := some w }).offer target .sweep
    | none =>
      (s.setFoc { s.foc with state := .failed, sweep := none }).raise .focusFailed
        (failedFields s.foc.at s.foc.measureCount)

/-- An outcome in SINGLE (R89; log entry 37). -/
def State.singleOutcome (s : State) (l : Lens) (c : Option (Selected × Bool)) : State :=
  match c, s.foc.state with
  | some (sel, focused), .searching | some (sel, focused), .driving => s.singleChosen l sel focused
  | none, .searching => s.sweepStep l
  | none, .driving => if s.foc.line.isSome then s else s.setFoc (s.foc.toSearching .single)
  | _, _ => s

/-- CHOSEN in CONTINUOUS (R92, R93, R97). -/
def State.continuousChosen (s : State) (l : Lens) (c : Selected) (focused : Bool) : State :=
  let measured := l.measuredTarget s.foc.at c.phase
  let h := pushHistory s.foc.history (c.time, measured)
  let s1 := s.setFoc { s.foc with state := if focused then .tracking else .driving, history := h,
                                  lostTime := some (c.time + 300000),
                                  inFocusTime := if focused then some c.time else s.foc.inFocusTime }
  match s.prediction l h with
  | some target => s1.offer target .predicted
  | none => s1.offer measured .measured

/-- An outcome in CONTINUOUS (R92). -/
def State.continuousOutcome (s : State) (l : Lens) (c : Option (Selected × Bool)) : State :=
  match c with
  | some (sel, focused) => s.continuousChosen l sel focused
  | none =>
    match s.foc.state with
    | .driving | .tracking => s.setFoc (s.foc.toSearching .continuous)
    | .idle | .searching | .locked | .lost | .failed | .fault => s

/-- The outcome is handed to the focus state machine (R83); in FAULT it moves no lens (R101). -/
def State.handOutcome (s : State) (c : Option (Selected × Bool)) : State :=
  if s.foc.state = .fault then s
  else match s.foc.lens, s.settings.af.mode with
    | some l, .single => s.singleOutcome l c
    | some l, .continuous => s.continuousOutcome l c
    | _, _ => s

/-- The chosen zone with its values, and whether it is in focus (R75, R83). -/
def State.chosen (s : State) (z : Nat) : Selected × Bool :=
  let r := s.foc.zone z
  ({ zone := z, phase := r.phase, confidence := r.confidence, time := s.sup.timeBase },
   inFocus s.settings.af.tolerance r.phase r.edge)

/-- The choice, the selected zone and the outcome handed on, in the states that choose (R77, R83, R85). -/
def State.choose (s : State) : State :=
  if s.foc.state.chooses then
    match s.chooseZone with
    | none => s.handOutcome none
    | some z => (s.setFoc { s.foc with selected := some (s.chosen z).1 }).handOutcome (some (s.chosen z))
  else s

/-- A frame's pupil lines arrive: all zones are measured, then the choice is made (R69, R76, R77). -/
def State.arrival (s : State) (lines : List PupilLines) : State :=
  let s1 := s.setFoc { s.foc with zones := measureZones s.sup.timeBase lines, measureCount := next32 s.foc.measureCount }
  (s1.setFoc { s1.foc with eligible := s1.eligibleZones.length }).choose

/-- The sensor has left READY or READOUT for OFF: every record is unmeasured (R76). -/
def State.unmeasure (s : State) : State := s.setFoc { s.foc with zones := List.replicate Config.zones Zone.unmeasured }

/-! ### Answers and timers (R93, R99, R100) -/

/-- MOVING is taken (R99). -/
def State.lensMoves (s : State) : State :=
  match s.foc.lens, s.foc.line with
  | some _, some m => s.setFoc { s.foc with line := some { m with attempt := 1, answerDue := s.sup.elapsed + 50000 } }
  | _, _ => s

/-- SETTLED is taken (R99). -/
def State.lensSettles (s : State) (position : Nat) : State :=
  match s.foc.lens, s.foc.line with
  | none, _ => s
  | some _, none => s.setFoc { s.foc with position := some position }
  | some _, some _ =>
    let s1 := s.setFoc { s.foc with position := some position, line := none, pendingTarget := none }
    match s.foc.pendingTarget with
    | none => s1
    | some p => s1.offer p.1 p.2

/-- LENS_FAULT's fields (R100). -/
def faultFields (target position : Nat) : List Byte := le 2 target ++ le 2 position

/-- The answer timer expires (R100). -/
def State.lensTimeout (s : State) : State :=
  match s.foc.line with
  | none => s
  | some m =>
    if m.attempt = 1 then
      s.setFoc { s.foc with line := some { m with attempt := 2, answerDue := s.sup.elapsed + 50000 },
                            repeats := next32 s.foc.repeats }
    else
      (s.setFoc { s.foc with line := none, pendingTarget := none, state := .fault, lostTime := none, sweep := none }).raise
        .lensFault (faultFields m.target s.foc.at)

/-- FOCUS_LOST's fields: of the selected zone the zone number alone (R93; log entry 52). -/
def lostFields (f : Foc) : List Byte := opt (le 1) (f.selected.map (·.zone)) ++ opt (le 8) f.inFocusTime

/-- The lost timer expires once the time base has reached it (R93). -/
def State.loseSubject (s : State) : State :=
  match s.foc.lostTime with
  | none => s
  | some t =>
    if s.sup.timeBase < t then s
    else
      let s1 := s.setFoc { s.foc with lostTime := none }
      match s.foc.state with
      | .searching | .driving | .tracking =>
        (s1.setFoc { s1.foc with state := .lost, pendingTarget := none, history := [] }).raise .focusLost (lostFields s.foc)
      | .idle | .locked | .lost | .failed | .fault => s1

/-! ### The gate (R102, R103) -/

/-- A focus wait that a HOLD answer starts (R103). -/
def State.focusWaitAfter (s : State) : Wait :=
  match s.foc.wait, s.gateAnswer with
  | .unstarted, .hold => .running (s.sup.elapsed + 1000 * s.settings.af.focusWait)
  | w, _ => w

/-- FOC answers for the pending committed frame and tells CAP of a changed answer; with none pending it holds no
focus wait (R102, R103). -/
def State.gateRefresh (s : State) : State :=
  if s.cap.committedPending then
    let g := s.gateAnswer
    let s1 := s.setFoc { s.foc with wait := s.focusWaitAfter, gate := some g }
    if s.foc.gate = some g then s1 else s1.notify .evaluate
  else s.setFoc { s.foc with wait := .unstarted, gate := none }

/-! ### SET_AF and SET_LENS (R80, R88, R95) -/

/-- The effects of a SET_AF whose settings are in force (R80, R88). -/
def State.afChanged (s : State) (old : AfSettings) : State :=
  let new := s.settings.af
  let s1 := if old.mode = new.mode && old.area = new.area then s else s.setFoc { s.foc with selected := none }
  if old.mode != new.mode && s1.foc.state != .fault then s1.setFoc s1.foc.toIdle else s1

/-- The effects of a SET_LENS (R95, R104). -/
def State.fitLens (s : State) (lens : Option Lens) (position : Option Nat) : State :=
  s.setFoc { s.foc.toIdle with lens := lens, position := position, lastMove := none }

end Sys2Proof.Machine
end

