-- ==== Sys2Proof/Machine/Capture.lean ====
section
/-! DEFINITION. The Capture Controller: the drive states and sequences, the admission of frames, exposure and
readout, the pre-capture ring, the flash and the release inputs (Chapter 2). -/

namespace Sys2Proof.Machine
open Sys2Proof

/-! ### Reports of CAP -/

/-- STALL_BEGIN's fields (R52). -/
def State.stallFields (s : State) (l : Lack) : List Byte :=
  code Lack.all l ++ le 2 s.sbm.freeCount ++ le 1 s.sbm.freeEntries

/-- STALL_END's fields; the missed count takes 4 bytes (R52; log entry 10). -/
def stallEndFields (started : Bool) (missed : Nat) : List Byte := flag started ++ le 4 missed

/-- BURST_END's fields; the shot count and the missed total take 4 bytes each (R48; log entry 10). -/
def Burst.fields (b : Burst) : List Byte := le 4 b.count ++ opt (le 4) b.first ++ opt (le 4) b.last ++ le 4 b.missed

/-- SHOT_COMMITTED's fields (R53). -/
def committedFields (n i start : Nat) (v : Verdict) (f : Flash) : List Byte :=
  le 4 n ++ le 1 i ++ le 8 start ++ code Verdict.all v ++ code Flash.all f

/-- SHOT_BUFFERED's fields (R54). -/
def bufferedFields (n i : Nat) (sh : Shot) : List Byte :=
  let st := sh.stats.getD ⟨0, 0, 0, 0, 0, 0, 0⟩
  le 4 n ++ le 1 i ++ le 4 ((sh.raw.map (·.size)).getD 0) ++ le 2 st.black ++ le 4 st.unclipped ++ le 4 st.clipped

/-- SHOT_BUFFERED raised for an entry, from the record as it stood at the completion (R54). -/
def State.reportBuffered (s : State) (i : Nat) (sh : Shot) : State :=
  match sh.number with
  | none => s
  | some n => s.raise .shotBuffered (bufferedFields n i sh)

/-! ### The sensor (R37) -/

/-- The sensor goes from OFF to WARMING (R37, R62). -/
def State.powerUpSensor (s : State) : State :=
  if s.cap.sensor = .off then
    s.setCap { s.cap with sensor := .warming, warmDue := some (s.sup.elapsed + 12000), black := none }
  else s

/-- The sensor is READY and a run of live frames begins (R37). -/
def State.sensorReady (s : State) : State :=
  (s.setCap { s.cap with sensor := .ready, warmDue := none, liveDue := some (s.sup.elapsed + 16667) }).notify .evaluate

/-- The sensor goes OFF when the power state leaves ACTIVE, unless a frame is in flight (R37, R76). -/
def State.powerDownSensor (s : State) : State :=
  match s.cap.sensor with
  | .warming => s.setCap { s.cap with sensor := .off, warmDue := none, liveDue := none }
  | .ready => (s.setCap { s.cap with sensor := .off, warmDue := none, liveDue := none }).unmeasure
  | .off | .exposing | .readout => s

/-! ### Sequences and the schedule (R41, R47, R50) -/

/-- The sequence's own copy of the settings (R41). -/
def CaptureSettings.sequence (c : CaptureSettings) : Sequence :=
  { depth := c.depth, crop := c.crop, drive := c.drive, rate := c.rate, ringDepth := c.ringDepth }

/-- The end of the previous frame's readout, which may lie ahead (R50). -/
def Cap.readoutEnd (c : Cap) : Nat :=
  match c.flight with
  | some f => f.readoutDue.getD (f.exposureDue + f.depth.readout)
  | none => c.prevReadout.getD 0

/-- The first opportunity of a sequence (R50). -/
def State.firstOpportunity (s : State) (q : Sequence) : Nat :=
  let sched := match s.cap.prevStart with
    | none => s.sup.elapsed
    | some t => max s.sup.elapsed (t + q.depth.minInterval)
  max sched s.cap.readoutEnd

/-- The sequence's frame interval (R39, R41). -/
def Sequence.interval (q : Sequence) : Nat := frameInterval q.rate

/-- The applied exposure of a frame (R41). -/
def Sequence.exposure (q : Sequence) (working : Nat) : Nat :=
  if q.drive = .single then working else min working (q.interval - q.depth.readout)

/-- The opportunity after a frame whose exposure starts now: the sequence's interval later, and no earlier than the end
of this frame's readout (R50). -/
def State.nextOpp (s : State) (q : Sequence) : Nat :=
  max (s.sup.elapsed + q.interval) (s.sup.elapsed + q.exposure s.settings.capture.exposure + q.depth.readout)

/-- The frame after one whose exposure starts now (R50). -/
def State.frameAfter (s : State) (q : Sequence) : Frame :=
  { opp := s.nextOpp q, reached := false, flashWait := .unstarted, stalled := none }

/-- A frame with an opportunity (R50). -/
def State.frameAt (s : State) (opp : Nat) : Frame :=
  { opp := opp, reached := opp ≤ s.sup.elapsed, flashWait := .unstarted, stalled := none }

/-- A sequence starts in a drive state (R47, R50). -/
def State.startSequence (s : State) (d : DriveState) : State :=
  let q := s.settings.capture.sequence
  (s.setCap { s.cap with drive := d, sequence := some q, ring := [], frame := some (s.frameAt (s.firstOpportunity q)) }).notify
    .evaluate

/-- A burst or single shot starts a sequence (R47, R60). -/
def State.startShooting (s : State) (d : DriveState) : State :=
  let s1 := s.startSequence d
  s1.setCap { s1.cap with pattern := 0, burst := Burst.empty }

/-- The raw size of the sequence's frames (R40). -/
def Sequence.size (q : Sequence) : Nat := rawSize q.depth q.crop

/-- A sequence returns to IDLE (R46, R47). -/
def State.toIdleDrive (s : State) : State := s.setCap { s.cap with drive := .idle, sequence := none, frame := none }

/-! ### Stalls and the dropped frame (R48, R52) -/

/-- The opportunities a stalled frame has missed by now (R52). -/
def State.missed (s : State) (f : Frame) : Nat :=
  match s.cap.drive, s.cap.sequence with
  | .burst, some q => (s.sup.elapsed - f.opp) / q.interval
  | _, _ => 0

/-- A stall ends: STALL_END, and its missed opportunities join the burst's total (R48, R52). -/
def State.endStall (s : State) (f : Frame) (started : Bool) : State :=
  match f.stalled with
  | none => s
  | some _ =>
    let m := s.missed f
    (s.setCap { s.cap with burst := { s.cap.burst with missed := s.cap.burst.missed + m } }).raise .stallEnd
      (stallEndFields started m)

/-- A pending frame is dropped, with STALL_END if it was stalled; FOC is told (R48, R103). -/
def State.dropFrame (s : State) : State :=
  let s1 := match s.cap.frame with
    | none => s
    | some f => s.endStall f false
  (s1.setCap { s1.cap with frame := none }).setFoc { s1.foc with wait := .unstarted, gate := none }

/-- The reports and the dropped frame of a burst end (R48). -/
def State.stopBurst (s : State) : State :=
  let s1 := s.dropFrame
  s1.raise .burstEnd s1.cap.burst.fields

/-! ### The ring (R8, R9, R57, R58) -/

/-- A RING entry's raw is removed with its last hold, and the entry becomes FREE (R3, R9). -/
def State.freeRing (s : State) (i : Nat) : State :=
  if (s.shot i).any (·.state == .ring) then
    let s1 := s.removeObj i .raw
    s1.setSbm (s1.sbm.put i none)
  else s

/-- A RING entry is discarded: at once when its raw is complete, otherwise at its readout end (R9). -/
def State.discardRing (s : State) (i : Nat) : State :=
  if (s.obj i .raw).any (·.complete) then s.freeRing i else s.releaseHold i .raw .ring

/-- Every ring entry is discarded (R58). -/
def State.discardWholeRing (s : State) : State :=
  let s1 := s.cap.ring.foldl State.discardRing s
  s1.setCap { s1.cap with ring := [] }

/-- The state a ring entry takes at its commit (R8). -/
def State.commitState (s : State) (i : Nat) : EntryState :=
  match s.cap.flight with
  | some f => if f.entry = i then (if s.cap.sensor = .readout then .readout else .exposing) else .buffered
  | none => .buffered

/-- A burst counts a committed shot (R48). -/
def Burst.add (b : Burst) (n : Nat) : Burst :=
  { b with count := b.count + 1, first := some (b.first.getD n), last := some n }

/-- One ring entry commits: its number, state and look snapshot, SHOT_COMMITTED, and its completion if its raw is
complete (R7, R8, R57, R121). -/
def State.commitRing (s : State) (i : Nat) : State :=
  match s.sbm.nextNumber with
  | none => s
  | some n =>
    let st := s.commitState i
    let s1 := (s.setSbm s.sbm.takeNumber).mapShot i fun sh =>
      { sh with state := st, number := some n, look := some s.settings.lookSnapshot }
    let s2 := s1.setCap { s1.cap with burst := s1.cap.burst.add n }
    match s2.shot i with
    | none => s2
    | some sh =>
      let s3 := s2.raise .shotCommitted (committedFields n i sh.startTime sh.verdict (sh.flash.getD .none))
      if st = .buffered then (s3.completeRaw i).reportBuffered i sh else s3.releaseHold i .raw .ring

/-- The burst's first frame after the commit of an empty ring: a pending one keeps its opportunity (R50). -/
def State.firstAfterRing (s : State) : Option Frame :=
  match s.cap.frame, s.cap.sequence with
  | some f, some q => if f.reached || !s.cap.ring.isEmpty then some f else some (s.frameAt (s.firstOpportunity q))
  | _, _ => s.cap.frame

/-- The full-press in RING: the burst starts in the same sequence and the ring commits in order (R47, R57). -/
def State.ringToBurst (s : State) : State :=
  let entries := s.cap.ring
  let s1 := s.setCap { s.cap with drive := .burst, pattern := 0, burst := Burst.empty, frame := s.firstAfterRing, ring := [] }
  (entries.foldl State.commitRing s1).notify .evaluate

/-! ### The drive states (R46, R49) -/

/-- The move out of IDLE, if any (R46). -/
def State.leaveIdle (s : State) : State :=
  if s.cap.full || s.cap.trigger then
    (if s.settings.capture.drive = .single then s.startShooting .shot else s.startShooting .burst)
  else if s.cap.half && s.settings.capture.drive = .precapture then s.startSequence .ring
  else s

/-- The drive mode of the running sequence. -/
def Cap.precapture (c : Cap) : Bool := c.sequence.any fun q => q.drive == .precapture

/-- The drive state reacts once to the press states and the trigger frame (R46). -/
def State.driveOnce (s : State) : State :=
  match s.cap.drive with
  | .idle => s.leaveIdle
  | .ring =>
    if s.cap.full || s.cap.trigger then s.ringToBurst
    else if !s.cap.half then s.discardWholeRing.dropFrame.toIdleDrive.leaveIdle
    else s
  | .shot => if !s.cap.half && !s.cap.trigger then s.dropFrame.toIdleDrive.leaveIdle else s
  | .spent => if s.cap.full then s else s.toIdleDrive.leaveIdle
  | .burst =>
    if s.cap.full || s.cap.trigger then s
    else if s.cap.half && s.cap.precapture then s.stopBurst.startSequence .ring
    else s.stopBurst.toIdleDrive.leaveIdle

/-- CAP reacts to the press states while the power state is ACTIVE (R45, R46). -/
def State.driveReact (s : State) : State := if s.sup.power = .active then s.driveOnce else s

/-! ### The flash (R60, R61) -/

/-- The flash is due at the pattern counter (R60). -/
def State.flashDue (s : State) : Bool := s.settings.sync.mask.getLsbD s.cap.pattern

/-- The flash outcome of a pending committed frame, or that it waits; each with the frame's flash wait as the check
leaves it (R61). -/
inductive FlashCheck where
  | settled (f : Flash) (w : Wait)
  | waits (w : Wait)
  deriving DecidableEq, Repr

/-- Check 4 of R51: a flash wait of 0 is expired as it starts, and an expiry stands for its frame (R61). -/
def State.flashCheck (s : State) (f : Frame) : FlashCheck :=
  if !s.flashDue then .settled .none f.flashWait
  else if s.pins.flashRdy then .settled .fired f.flashWait
  else match f.flashWait with
    | .unstarted =>
      if s.settings.sync.wait = 0 then .settled .missed .expired
      else .waits (.running (s.sup.elapsed + 1000 * s.settings.sync.wait))
    | .running due => .waits (.running due)
    | .expired => .settled .missed .expired

/-- The pulse of a FIRED frame (R61). -/
def SyncSettings.pulse (g : SyncSettings) (now exposure : Nat) : Pulse :=
  let d := min g.delay (exposure - 1)
  { startDue := now + d, endDue := now + d + min g.duration (exposure - d) }

/-! ### Exposure start (R53, R56) -/

/-- The exposure snapshot (R12, R53). -/
def State.snapshotFor (s : State) (q : Sequence) : Snapshot :=
  { exposure := q.exposure s.settings.capture.exposure, gain := s.settings.capture.gain, depth := q.depth, crop := q.crop }

/-- The entry is opened with its raw reserved (R6). -/
def State.openEntry (s : State) (q : Sequence) (i : Nat) (sh : Shot) (ring : Bool) : State :=
  let s1 := s.setSbm (s.sbm.put i (some sh))
  (s1.reserve i .raw q.size .cap none ring (.sensor q.depth q.crop.width [])).getD s1

/-- The frame in flight as its exposure starts (R53). -/
def State.newFlight (s : State) (q : Sequence) (i : Nat) : Flight :=
  { entry := i, depth := q.depth, width := q.crop.width, height := q.crop.height,
    exposureDue := s.sup.elapsed + q.exposure s.settings.capture.exposure, readoutDue := none, ob := none }

/-- The sensor exposes a frame of an entry; live frames end (R37, R53). -/
def State.expose (s : State) (q : Sequence) (i : Nat) : State :=
  s.setCap { s.cap with sensor := .exposing, liveDue := none, flight := some (s.newFlight q i), prevStart := some s.sup.elapsed }

/-- The shot record of a frame whose exposure starts now (R12, R53, R104). -/
def State.recordFor (s : State) (q : Sequence) (st : EntryState) (n : Option Nat) (flash : Flash) (look : Option JobLook) : Shot :=
  newShot st n s.sup.timeBase (s.snapshotFor q) s.verdict s.foc.position (s.foc.selected.map (·.zone)) flash look

/-- CAP after a committed exposure start: the drive state, the counter, the pulse and the next frame (R46, R50, R60,
R61). -/
def State.afterStart (s : State) (q : Sequence) (n : Nat) (flash : Flash) : State :=
  let c := s.cap
  let c1 := { c with pattern := (c.pattern + 1) % s.settings.sync.period, trigger := false,
                     pulse := if flash = Flash.fired then
                                some (s.settings.sync.pulse s.sup.elapsed (q.exposure s.settings.capture.exposure))
                              else c.pulse }
  if c.drive = .shot then
    (if c.full then s.setCap { c1 with drive := .spent, frame := none }
     else (s.setCap { c1 with frame := none }).toIdleDrive.leaveIdle)
  else
    (s.setCap { c1 with burst := c1.burst.add n,
                        frame := some (s.frameAfter q) }).driveReact

/-- FLASH_MISSED raised for a MISSED outcome (R53, R61). -/
def State.reportFlash (s : State) (n pattern : Nat) (flash : Flash) : State :=
  if flash = .missed then s.raise .flashMissed (le 4 n ++ le 1 pattern) else s

/-- The exposure of a committed frame starts and the shot commits (R7, R53). -/
def State.startCommitted (s : State) (q : Sequence) (f : Frame) (flash : Flash) (i n : Nat) : State :=
  let sh := s.recordFor q .exposing (some n) flash (some s.settings.lookSnapshot)
  let s1 := ((s.endStall f true).setSbm s.sbm.takeNumber).openEntry q i sh false
  let s2 := (s1.expose q i).raise .shotCommitted (committedFields n i sh.startTime sh.verdict flash)
  let s3 := s2.reportFlash n s.cap.pattern flash
  (s3.setFoc { s3.foc with wait := .unstarted, gate := none }).afterStart q n flash

/-- A committed frame's open is refused: the frame stalls (R52). -/
def State.stall (s : State) (f : Frame) (l : Lack) : State :=
  let s1 := s.setCap { s.cap with frame := some { f with stalled := some l } }
  match f.stalled with
  | some _ => s1
  | none => s1.raise .stallBegin (s.stallFields l)

/-- Check 5 for a committed frame (R51, R52). -/
def State.openCommitted (s : State) (q : Sequence) (f : Frame) (flash : Flash) : State :=
  match s.committedLack q.size with
  | some l => s.stall f l
  | none =>
    match s.sbm.freeEntry, s.sbm.nextNumber with
    | some i, some n => s.startCommitted q f flash i n
    | _, _ => s

/-- Checks 3 to 5 for a committed frame (R51). -/
def State.evaluateCommitted (s : State) (q : Sequence) (f : Frame) : State :=
  if s.gateAnswer = .hold then s
  else match s.flashCheck f with
    | .waits w => s.setCap { s.cap with frame := some { f with flashWait := w } }
    | .settled o w => s.openCommitted q { f with flashWait := w } o

/-- A ring frame's exposure starts (R53, R56). -/
def State.startRing (s : State) (q : Sequence) (i : Nat) : State :=
  let sh := s.recordFor q .ring none .none none
  let s1 := (s.openEntry q i sh true).expose q i
  s1.setCap { s1.cap with ring := s1.cap.ring ++ [i], frame := some (s.frameAfter q) }

/-- A ring frame is skipped: the schedule moves on by whole intervals from its own opportunity (R50, R56; log entry
27). -/
def State.skipRing (s : State) (q : Sequence) (f : Frame) : State :=
  let opp := f.opp + ((s.sup.elapsed - f.opp) / q.interval + 1) * q.interval
  s.setCap { s.cap with frame := some { opp := opp, reached := false, flashWait := .unstarted, stalled := none } }

/-- A ring open (R6, R56). -/
def State.openRing (s : State) (q : Sequence) (f : Frame) : State :=
  match s.ringLack s.cap.ring.length q.size, s.sbm.freeEntry with
  | none, some i => s.startRing q i
  | _, _ => s.skipRing q f

/-- A ring replacement: the oldest entry is discarded, then the open is judged (R6, R56). -/
def State.replaceRing (s : State) (q : Sequence) (f : Frame) : State :=
  match s.cap.ring with
  | [] => s.skipRing q f
  | i :: rest =>
    let s1 := s.discardRing i
    (s1.setCap { s1.cap with ring := rest }).openRing q f

/-- Check 5 for a ring frame (R56). -/
def State.evaluateRing (s : State) (q : Sequence) (f : Frame) : State :=
  if s.cap.ring.length < q.ringDepth && (s.ringLack s.cap.ring.length q.size).isNone then s.openRing q f
  else s.replaceRing q f

/-- The pattern counter when a shorter period is taken (R59). -/
def State.wrapPattern (s : State) : State :=
  s.setCap { s.cap with pattern := s.cap.pattern % s.settings.sync.period }

/-- The pending frame is evaluated (R51). -/
def State.evaluate (s : State) : State :=
  match s.cap.frame, s.cap.sequence with
  | some f, some q =>
    if !f.reached then s
    else
      let s1 := s.wrapPattern
      if s.sup.power != .active || s.sup.level != .normal || s.cap.sensor != .ready then s1
      else match s.cap.drive with
        | .ring => s1.evaluateRing q f
        | .shot | .burst => s1.evaluateCommitted q f
        | .idle | .spent => s1
  | _, _ => s

/-- The pending frame's opportunity comes (R50). -/
def State.reachOpportunity (s : State) : State :=
  match s.cap.frame with
  | none => s
  | some f => (s.setCap { s.cap with frame := some { f with reached := true } }).notify .evaluate

/-! ### Exposure end, OB rows, readout end (R54, R62, R63) -/

/-- The exposure ends and the readout starts (R8, R37, R54). -/
def State.startReadout (s : State) : State :=
  match s.cap.flight with
  | none => s
  | some f =>
    let s1 := s.setCap { s.cap with sensor := .readout,
                                    flight := some { f with readoutDue := some (s.sup.elapsed + f.depth.readout) } }
    s1.mapShot f.entry fun sh => if sh.state = .exposing then { sh with state := .readout } else sh

/-- The OB rows end: the black baseline is updated and becomes the frame's B_shot (R62). -/
def State.measureBlack (s : State) (samples : List Nat) : State :=
  match s.cap.flight with
  | none => s
  | some f =>
    let mean := obMean f.depth samples
    let b := nextBlack s.settings.capture.step s.cap.black mean
    s.setCap { s.cap with black := some b, flight := some { f with ob := some (mean, b) } }

/-- The sensor after a readout (R37, R76). -/
def State.sensorAfterReadout (s : State) : State :=
  let s1 := s.setCap { s.cap with flight := none, prevReadout := some s.sup.elapsed }
  if s.sup.power = .active then s1.sensorReady
  else (s1.setCap { s1.cap with sensor := .off, liveDue := none }).unmeasure

/-- The statistics and the samples of a frame are written (R38, R54, R63). -/
def State.writeFrame (s : State) (f : Flight) (mean black : Nat) (quads : List Quad) : State :=
  (s.mapShot f.entry fun sh => { sh with stats := some (frameStats f.depth f.width f.height mean black quads) }).mapObj
    f.entry .raw fun o => { o with data := .sensor f.depth f.width (quads.take (quadCount f.width f.height)) }

/-- SBM is told that the raw is complete: it is card-bound from here on, in the ring too (R8, R9, R18, R23, R54). -/
def State.finishFrame (s : State) (i : Nat) : State :=
  match s.shot i with
  | none => s
  | some sh =>
    match sh.state with
    | .ring =>
      if s.cap.ring.contains i then
        s.mapObj i .raw fun o => { o with complete := true, cardBound := true, holds := o.holds.set .fill false }
      else s.freeRing i
    | .exposing | .readout | .buffered =>
      ((s.mapShot i fun x => { x with state := .buffered }).completeRaw i).reportBuffered i sh

/-- The readout ends: the frame's pupil lines reach FOC before anything is evaluated (R38, R54; log entry 26). -/
def State.endReadout (s : State) (f : Flight) (mean black : Nat) (quads : List Quad) (lines : List PupilLines) : State :=
  ((s.arrival lines).writeFrame f mean black quads).sensorAfterReadout.finishFrame f.entry

/-! ### The power state (R37, R45, R65) -/

/-- CAP ends its sequence when the power state leaves ACTIVE (R65). -/
def State.endSequence (s : State) : State :=
  let s1 := match s.cap.drive with
    | .burst => s.stopBurst
    | .ring => s.discardWholeRing.dropFrame
    | .idle | .shot | .spent => s.dropFrame
  let s2 := s1.toIdleDrive
  s2.setCap { s2.cap with trigger := false }

/-- The power state leaves ACTIVE (R65, R88, R101, R210). -/
def State.leaveActive (s : State) : State :=
  let s1 := s.endSequence.powerDownSensor
  s1.setFoc s1.foc.toIdle

/-- The power state enters ACTIVE (R37, R45). -/
def State.enterActive (s : State) : State := (s.powerUpSensor.notify .evaluate).driveReact

/-- The power state changes and CAP, FOC and SBM are told (R210). -/
def State.setPowerState (s : State) (new : PowerState) : State :=
  let old := s.sup.power
  let s1 := s.setSup { s.sup with power := new }
  if old = new then s
  else if old = .active then s1.leaveActive
  else if new = .active then s1.enterActive
  else s1

/-- WOKEN's fields (R211, R214). -/
def wokenFields (before now : PowerState) (cause : WakeCause) (time : Nat) : List Byte :=
  code PowerState.all before ++ code PowerState.all now ++ code WakeCause.all cause ++ le 8 time

/-- WOKEN raised, and the power state changed (R211, R214). -/
def State.wokenTo (s : State) (new : PowerState) (cause : WakeCause) : State :=
  (s.raise .woken (wokenFields s.sup.power new cause s.sup.timeBase)).setPowerState new

/-- A wake starts, or a running one takes another target (R214). -/
def State.wakeTo (s : State) (target : PowerState) (cause : WakeCause) : State :=
  match s.sup.wake with
  | some w => s.setSup { s.sup with wake := some { w with target := target, cause := cause } }
  | none =>
    (s.setSup { s.sup with wake := some { target := target, cause := cause, endDue := s.sup.elapsed + 8000 } }).setSbm
      { s.sbm with dramOn := true }

/-- CAP asks SUP for ACTIVE at release activity (R45, R211, R214). -/
def State.askActive (s : State) : State :=
  match s.sup.power with
  | .active => s
  | .standby => s.wokenTo .active .release
  | .dormant => s.wakeTo .active .release

/-! ### Release inputs (R42 to R45) -/

/-- The debouncer of a line. -/
def Cap.debouncer (c : Cap) : InputLine → Debouncer
  | .relHalf => c.relHalf
  | .relFull => c.relFull
  | .trigIn => c.trigIn

/-- The debouncer of a line replaced. -/
def Cap.setDebouncer (c : Cap) (l : InputLine) (d : Debouncer) : Cap :=
  match l with
  | .relHalf => { c with relHalf := d }
  | .relFull => { c with relFull := d }
  | .trigIn => { c with trigIn := d }

/-- The level of a line. -/
def Pins.line (p : Pins) : InputLine → Bool
  | .relHalf => p.relHalf
  | .relFull => p.relFull
  | .trigIn => p.trigIn

/-- The level of a line set. -/
def Pins.setLine (p : Pins) (l : InputLine) (high : Bool) : Pins :=
  match l with
  | .relHalf => { p with relHalf := high }
  | .relFull => { p with relFull := high }
  | .trigIn => { p with trigIn := high }

/-- A debouncer after its line takes a level at a moment (R42). -/
def Debouncer.see (d : Debouncer) (high : Bool) (now : Nat) : Debouncer :=
  if high = d.recognized then { d with since := none, atReset := false }
  else match d.since with
    | some _ => d
    | none => { d with since := some now, atReset := false }

/-- A press state has become held (R45). -/
def pressRose (old new : Cap) : Bool := (new.half && !old.half) || (new.full && !old.full)

/-- Release activity at a recognized level of REL_HALF or REL_FULL: a press state becoming held, and in DORMANT any
press on the lines, whatever the host's part already holds (R45, R214; log entry 49). -/
def State.lineActive (s : State) (high : Bool) (new : Cap) : Bool :=
  if s.sup.power = .dormant then high else pressRose s.cap new

/-- CAP and FOC act on press states changed by a line or RELEASE; `active` is release activity (R43, R45, R46). -/
def State.pressed (s : State) (active : Bool) : State :=
  let s1 := if active then s.askActive else s
  s1.driveReact

/-- A trigger edge in trigger mode ON (R44, R45). -/
def State.triggerEdge (s : State) : State :=
  if s.sup.power = .active then
    match s.cap.drive with
    | .idle | .ring => (s.setCap { s.cap with trigger := true }).driveReact
    | .shot | .spent | .burst => s
  else (s.setCap { s.cap with trigger := true }).askActive

/-- A candidate level is recognized (R42, R43, R44). -/
def State.recognize (s : State) (l : InputLine) : State :=
  let d := s.cap.debouncer l
  let high := !d.recognized
  let s1 := s.setCap (s.cap.setDebouncer l { recognized := high, since := none, atReset := false })
  match l with
  | .relHalf | .relFull => s1.pressed (s.lineActive high s1.cap)
  | .trigIn => if high && !d.atReset && s.settings.capture.trigger then s1.triggerEdge else s1

/-- Trigger mode OFF drops a trigger frame that has not started; in a burst that full-press asks for as well, the frame
stays as the burst's own (R44; log entry 25). -/
def State.dropTrigger (s : State) : State :=
  if s.cap.trigger then
    let s1 := s.setCap { s.cap with trigger := false }
    if s.cap.drive = .shot then s1.dropFrame.toIdleDrive else s1
  else s

end Sys2Proof.Machine
end

