-- ==== Sys2Proof/Machine/Relay.lean ====
section
/-! DEFINITION. The tether link's events: carrier, beacons, the frames of the station, the segments and control
frames sent (Chapter 7), and the answering of pulls (Chapter 8). -/

namespace Sys2Proof.Machine
open Sys2Proof

/-! ### Carrier, beacons and rejoin (R161, R162, R165, R166) -/

/-- Carrier up in DOWN (R161). -/
def State.carrierUp (s : State) : State :=
  if s.tet.carrier then s
  else (s.setTet { s.tet with carrier := true }).enterLink .seeking .carrier

/-- Carrier down (R161). -/
def State.carrierDown (s : State) : State :=
  if s.tet.carrier then
    let s1 := s.returnTransfer false
    (s1.setTet { s1.tet with carrier := false, heard := false, lossDue := none, rejoin := 0, tx := [], wire := none }).enterLink
      .down .carrier
  else s

/-- The beacon loss timer expires (R162). -/
def State.loseBeacons (s : State) : State :=
  if s.tet.heard && s.tet.carrier then
    let s1 := s.setTet { s.tet with heard := false, lossDue := none, rejoin := 0 }
    (s1.returnTransfer true).enterLink .seeking .beaconLoss
  else s

/-- TEC, REC and the rejoin count cleared (R165, R166, R177). -/
def Tet.cleared (t : Tet) : Tet := { t with tec := 0, recErrors := 0, rejoin := 0 }

/-- A beacon counter that is one more than the last one recorded (R162). -/
def Tet.inSequence (t : Tet) (counter : Nat) : Bool := t.lastBeacon.any fun l => counter == (l + 1) % 65536

/-- A beacon counted toward a rejoin in CUT (R165). -/
def State.countBeacon (s : State) (inSeq : Bool) : State :=
  let n := if inSeq then s.tet.rejoin + 1 else 1
  if 64 ≤ n then (s.setTet s.tet.cleared).enterLink .linked .rejoin
  else s.setTet { s.tet with rejoin := n }

/-- The link after a good beacon's counter, status and time are recorded (R162). -/
def State.recordBeacon (s : State) (counter : Nat) (status : StationStatus) : State :=
  s.setTet { s.tet with lastBeacon := some counter, status := some status, beaconTime := some s.sup.timeBase,
                        lossDue := some (s.sup.elapsed + 1000000), heard := true }

/-- A good beacon is taken (R162, R165). A beacon that makes the station heard brings at most one TETHER_STATE (log
entry 23), and the one that brings the link to CUT is not counted (log entry 35). -/
def State.takeBeacon (s : State) (counter : Nat) (status : StationStatus) : State :=
  let s1 := s.recordBeacon counter status
  if s.tet.heard then
    let s2 := if s.tet.status = some status then s1 else (s1.reportLink s1.tet.state .beacon).notify .linkAsk
    if s.tet.state = .cut && s.settings.tether.autoRejoin then s2.countBeacon (s.tet.inSequence counter) else s2
  else s1.enterLink (linkJudged s1.tet.tec s1.tet.recErrors) .beacon

/-- REJOIN's effect (R166). -/
def State.rejoinLink (s : State) : State :=
  let s1 := s.setTet s.tet.cleared
  if s1.tet.heard && s1.tet.carrier then
    (if s1.tet.state = .linked then s1.notify .linkAsk else s1.enterLink .linked .rejoin)
  else s1

/-- What a change of the station settings does to the link (R177); a status that becomes absent while the state stays
raises nothing (log entry 55). -/
def State.leaveStation (s : State) : State :=
  let s1 := s.returnTransfer false
  let s2 := s1.setTet { s1.tet.cleared with heard := false, lossDue := none, lastBeacon := none, status := none, tx := [] }
  if s2.tet.carrier && s2.tet.state != .seeking then s2.enterLink .seeking .settings else s2

/-! ### The transfer's events (R168 to R174) -/

/-- The active transfer changed in place. -/
def State.mapTransfer (s : State) (f : Transfer → Transfer) : State :=
  s.setTet { s.tet with transfer := s.tet.transfer.map f }

/-- The ack timer expires in OFFERED (R168). -/
def State.offerAgain (s : State) : State :=
  let s1 := s.raiseTec
  match s1.tet.transfer with
  | none => s1
  | some t => (s1.mapTransfer fun t => { t with offers := t.offers + 1, ackDue := some s1.ackDueNow }).pushTx t.offerFrame

/-- The ack timer expires in SENDING: the go-back (R172). -/
def State.goBack (s : State) : State :=
  let s1 := s.raiseTec
  s1.mapTransfer fun t => { t with next := t.acked, ackDue := some s1.ackDueNow }

/-- The outcomes of a delivery, in the order of R174. -/
inductive Delivery where
  | acked | haveIt
  deriving DecidableEq, Repr

/-- TETHER_DELIVERED's fields (R174). -/
def deliveredFields (t : Transfer) (d : Delivery) (overdue : Bool) (time : Nat) : List Byte :=
  le 4 t.item ++ le 4 t.shot ++ code Pict.all t.kind ++ le 2 t.id ++ code [Delivery.acked, .haveIt] d ++ flag overdue
    ++ le 8 time

/-- The item of a transfer that has ended by delivery or refusal is removed, and the link asks for the next (R174). -/
def State.endTransfer (s : State) (t : Transfer) : State :=
  let s1 := (s.setTet { s.tet with transfer := none }).notify .linkAsk
  match s.tet.item t.item with
  | none => s1
  | some x => s1.removeItem x

/-- A transfer is delivered (R174). -/
def State.deliver (s : State) (t : Transfer) (d : Delivery) : State :=
  let overdue := (s.tet.item t.item).any (·.overdue)
  ((s.setTet { s.tet with delivered := next32 s.tet.delivered }).raise .tetherDelivered
    (deliveredFields t d overdue s.sup.timeBase)).endTransfer t

/-- A transfer is refused (R174). -/
def State.refuseTransfer (s : State) (t : Transfer) (r : DeclineReason) : State :=
  let origin := ((s.tet.item t.item).map (·.origin)).getD .rule
  (s.decline (some t.item) t.shot t.kind origin none (some t.id) r).endTransfer t

/-- A good ACCEPT of the active transfer (R169). -/
def State.acceptTransfer (s : State) (start credit : Nat) : State :=
  s.mapTransfer fun t =>
    match t.state with
    | .sending => t
    | .offered => { t with state := .sending, acked := start, next := start, mark := start, credit := credit, ackDue := none }

/-- A good ACK of the active transfer in SENDING (R171). -/
def State.ackTransfer (s : State) (t : Transfer) (j credit : Nat) : State :=
  if j < t.acked then s
  else if j = t.acked then s.mapTransfer fun t => { t with credit := credit }
  else
    let next := max t.next j
    let timer := if j < next then some s.ackDueNow else none
    let s1 := s.mapTransfer fun t => { t with acked := j, next := next, credit := credit, ackDue := timer }
    let s2 := s1.lowerTec
    if j = t.segments then (match s2.tet.transfer with | none => s2 | some t' => s2.deliver t' .acked) else s2

/-- A good NAK of the active transfer in SENDING (R173). -/
def State.nakTransfer (s : State) (t : Transfer) (i : Nat) : State :=
  if i < t.acked then s
  else
    let s1 := s.raiseTec
    s1.mapTransfer fun t => { t with next := i, ackDue := some s1.ackDueNow }

/-! ### LIST and PULL (R198 to R201) -/

/-- A number put into an ascending list without repeats. -/
def insertOnce (n : Nat) : List Nat → List Nat
  | [] => [n]
  | m :: ms => if n < m then n :: m :: ms else if n = m then m :: ms else m :: insertOnce n ms

/-- A shot's place in the LIST by the card index, with the scale of the newest mounted entry, or of the newest one where
none is mounted (R199; log entry 60). -/
def State.indexAvail (s : State) (n : Nat) (k : Pict) : Avail × Option Scale :=
  match s.indexOf n k with
  | [] => (.none, none)
  | e :: es =>
    match (e :: es).find? s.mountedEntry with
    | some m => (.onCard, m.scale)
    | none => (.unmounted, e.scale)

/-- Where a LIST entry says a picture stands, and its scale (R199). -/
def State.avail (s : State) (n : Nat) (k : Pict) (o : Option Obj) : Avail × Option Scale :=
  match o with
  | none => s.indexAvail n k
  | some o => if o.complete then (.inBuffer, o.scale) else s.indexAvail n k

/-- The LIST entry of a committed BUFFERED shot (R199). -/
def State.listCommitted (s : State) (n : Nat) (sh : Shot) : ListEntry :=
  { shot := n, startTime := sh.startTime, verdict := sh.verdict, urgent := sh.urgent, picked := sh.picked,
    rating := sh.rating, thumb := sh.thumb.isSome, raw := (s.avail n .raw sh.raw).1,
    rendition := (s.avail n .rendition sh.rendition).1, scale := (s.avail n .rendition sh.rendition).2 }

/-- The LIST entry of a shot of the card index alone (R199). -/
def State.listIndexed (s : State) (n : Nat) (e : IndexEntry) : ListEntry :=
  { shot := n, startTime := e.startTime, verdict := e.verdict, urgent := e.urgent, picked := e.picked,
    rating := e.rating, thumb := false, raw := (s.indexAvail n .raw).1, rendition := (s.indexAvail n .rendition).1,
    scale := (s.indexAvail n .rendition).2 }

/-- The LIST entry of a shot, if it is listed (R199). -/
def State.listEntry (s : State) (n : Nat) : Option ListEntry :=
  match s.committed n with
  | some e => if e.2.unfit then none else some (s.listCommitted n e.2)
  | none => (s.newestIndex n).map fun e => s.listIndexed n e

/-- The shot numbers the two sources of a LIST hold, ascending (R199). -/
def State.knownShots (s : State) : List Nat :=
  let table := s.sbm.shots.filterMap fun e => e.bind (·.number)
  (table ++ s.sbm.cardIndex.map (·.shot)).foldl (fun l n => insertOnce n l) []

/-- The LIST frame from a shot number on (R199). -/
def State.listFrame (s : State) (pull start : Nat) : RelayFrame :=
  .list pull (((s.knownShots.filter fun n => start ≤ n).filterMap s.listEntry).take 32)

/-- The answer to a pull by the outcome of its item (R182). -/
def ItemOutcome.pullReply : ItemOutcome → PullReply
  | .ready | .waitDevelop | .waitRecall | .merged => .accepted
  | .unfit | .notFound | .notMounted => .refused
  | .noRoom | .queueFull => .busy

/-- The auto-answer of a pull kind (R197). -/
def TetherSettings.autoAnswer (t : TetherSettings) : PullKind → Bool
  | .list => t.pullList
  | .pict .thumb => t.pullThumb
  | .pict .rendition => t.pullRendition
  | .pict .raw => t.pullRaw

/-- An object pull answered with a priority: an item is asked for, and the station told (R198, R201). -/
def State.answerObject (s : State) (pull n : Nat) (k : Pict) (priority : Nat) : State × ItemOutcome :=
  let r := s.requestItem n k priority none .keep .station
  (r.1.pushTx (.pullReply pull r.2.pullReply), r.2)

/-- STATION_PULL's fields (R200). -/
def pullFields (p : Pull) (held : Nat) : List Byte :=
  le 2 p.id ++ pullKindCode p.kind ++ le 4 p.shot ++ le 1 p.priority ++ le 1 held

/-- A pull joins the inbox, or is answered BUSY (R200). -/
def State.inboxPull (s : State) (p : Pull) : State :=
  if Config.inbox ≤ s.tet.inbox.length then s.pushTx (.pullReply p.id .busy)
  else
    (s.setTet { s.tet with inbox := s.tet.inbox ++ [p] }).raise .stationPull (pullFields p (s.tet.inbox.length + 1))

/-- A good PULL is taken (R198). -/
def State.takePull (s : State) (id : Nat) (kind : PullKind) (n priority : Nat) : State :=
  if s.sup.power = .dormant then s.pushTx (.pullReply id .busy)
  else if s.tet.inbox.any (·.id == id) then s
  else if s.settings.tether.autoAnswer kind then
    match kind with
    | .list => s.pushTx (s.listFrame id n)
    | .pict k => (s.answerObject id n k (min priority s.settings.tether.pullCap)).1
  else s.inboxPull { id := id, kind := kind, shot := n, priority := priority, time := s.sup.timeBase }

/-! ### Frames received (R158) -/

/-- An index the active transfer cannot take, under its own id (R158). -/
def StationFrame.badIndex (t : Transfer) : StationFrame → Bool
  | .accept id start _ => id == t.id && t.offered < start
  | .ack id j _ => id == t.id && t.mark < j
  | .nak id i => id == t.id && t.mark ≤ i
  | .refuse .. | .beacon .. | .pull .. => false

/-- A credit outside 1 to 64 (R158). -/
def StationFrame.badCredit : StationFrame → Bool
  | .accept _ _ c | .ack _ _ c => c == 0 || 64 < c
  | .refuse .. | .nak .. | .beacon .. | .pull .. => false

/-- A frame from the station is malformed by the active transfer or its credit (R158). -/
def State.malformed (s : State) (f : StationFrame) : Bool :=
  f.badCredit || s.tet.transfer.any fun t => f.badIndex t

/-- The active transfer, if a frame carries its id. -/
def State.transferOf (s : State) (id : Nat) : Option Transfer := s.tet.transfer.filter fun t => t.id == id

/-- A good ACCEPT is taken; a stale one has no effect (R158, R169). -/
def State.takeAccept (s : State) (id start credit : Nat) : State :=
  match s.transferOf id with
  | none => s
  | some _ => s.acceptTransfer start credit

/-- A good REFUSE is taken; a stale one has no effect (R158, R174). -/
def State.takeRefuse (s : State) (id : Nat) (reason : RefuseReason) : State :=
  match s.transferOf id with
  | none => s
  | some t =>
    match reason with
    | .haveIt => s.deliver t .haveIt
    | .declined => s.refuseTransfer t .declined
    | .noSpace => s.refuseTransfer t .noSpace

/-- A good ACK is taken; a stale one, or one in OFFERED, has no effect (R158, R169, R171). -/
def State.takeAck (s : State) (id j credit : Nat) : State :=
  match s.transferOf id with
  | none => s
  | some t =>
    match t.state with
    | .offered => s
    | .sending => s.ackTransfer t j credit

/-- A good NAK is taken; a stale one, or one in OFFERED, has no effect (R158, R169, R173). -/
def State.takeNak (s : State) (id i : Nat) : State :=
  match s.transferOf id with
  | none => s
  | some t =>
    match t.state with
    | .offered => s
    | .sending => s.nakTransfer t i

/-- A good frame is taken by its kind (R158). -/
def State.takeGood (s : State) (f : StationFrame) : State :=
  let s1 := s.goodFrame
  match f with
  | .accept id start credit => s1.takeAccept id start credit
  | .refuse id reason => s1.takeRefuse id reason
  | .ack id j credit => s1.takeAck id j credit
  | .nak id i => s1.takeNak id i
  | .beacon counter status => s1.takeBeacon counter status
  | .pull id kind n priority => s1.takePull id kind n priority

/-- A frame from the station, well formed as far as its bytes go, is judged by the active transfer (R158). -/
def State.judgeStation (s : State) (f : StationFrame) : State := if s.malformed f then s.badFrame else s.takeGood f

/-- A frame reaches the port, from its destination through its frame check sequence (R158). With no carrier nothing
is received. -/
def State.receiveFrame (s : State) (frame : List Byte) : State :=
  if s.tet.carrier then
    match judgeFrame s.settings.tether frame with
    | .bad => s.badFrame
    | .disregarded => s
    | .good f => s.judgeStation f
  else s

/-- A frame from the station given by its fields (R158; log entry 31): with the station address unset no frame is
from the station. -/
def State.receive (s : State) (f : StationFrame) : State :=
  if s.tet.carrier && s.settings.tether.station != 0 then s.judgeStation f else s

/-! ### Frames sent (R159, R170) -/

/-- The active transfer may send a segment (R170). -/
def State.maySend (s : State) (t : Transfer) : Bool :=
  t.state == .sending && t.next - t.acked < s.effectiveCredit t && t.next < t.segments

/-- The segment at the next index (R170). -/
def State.segment (s : State) (t : Transfer) : RelayFrame :=
  let from' := t.next * Config.segmentBytes
  let length := min t.size (from' + Config.segmentBytes) - from'
  .seg t.id t.next (match s.picture t.shot t.kind with
                    | none => List.replicate length 0
                    | some p => p.2.2.bytes from' length)

/-- The transfer after its next segment is made (R170). -/
def State.afterSegment (s : State) (t : Transfer) : Transfer :=
  { t with next := t.next + 1, mark := max t.mark (t.next + 1),
           ackDue := if t.next = t.acked then some s.ackDueNow else t.ackDue }

/-- The port begins to send a frame (R159, R235). -/
def State.send (s : State) (f : RelayFrame) : State :=
  s.setTet { s.tet with wire := some (f.bytes s.settings.tether) }

/-- The port is free: the oldest control frame, or the next segment (R159). -/
def State.portFree (s : State) : State :=
  match s.tet.tx with
  | f :: fs => (s.setTet { s.tet with tx := fs }).send f
  | [] =>
    match s.tet.transfer with
    | none => s.setTet { s.tet with wire := none }
    | some t =>
      if s.maySend t then (s.mapTransfer s.afterSegment).send (s.segment t)
      else s.setTet { s.tet with wire := none }

end Sys2Proof.Machine
end

