-- ==== Sys2Proof/Machine/Settle.lean ====
section
/-! DEFINITION. The end of a step: focus and the gate brought up to date, and the work one block has asked of another
done, until none is left (log entry 6). Beside it the two shapes every meaning has: a host command taken by the link
(R221) and an event at a port or a timer. -/

namespace Sys2Proof.Machine
open Sys2Proof

/-- Focus follows what makes it active, and the gate answers afresh (R87, R102). -/
def State.refresh (s : State) : State := s.refreshFocus.gateRefresh

/-- The work a notice asks for. -/
def State.handle (s : State) : Notice → State
  | .evaluate => s.evaluate
  | .engineLook => s.engineLook
  | .recallAsk sl => s.recallAsk sl
  | .linkAsk => s.linkAsk
  | .preempt => s.preempt
  | .expire m => s.expireItem m

/-- Notices are handled in the order they were raised, at most `fuel` of them. -/
def State.drain (s : State) : Nat → State
  | 0 => s.refresh
  | fuel + 1 =>
    let s1 := s.refresh
    match s1.notices with
    | [] => s1
    | n :: ns => ((s1.setNotices ns).handle n).drain fuel

/-- The step is carried to its end (log entry 6: the bound is far above what a step can ask for). -/
def State.settle (s : State) : State := s.drain 4096

/-- What a command answers: the state its own effect leaves, the reply's status and the values after it. -/
structure Answer where
  state : State
  status : Status
  rest : List Byte := []

/-- The code of a reply's KIND (R233). -/
def replyKind (kind : Nat) : Nat := kind + 128

/-- A good frame is discarded without reply (R221). -/
def State.discardCommand (s : State) : State := s.setLink { s.link with discarded := next32 s.link.discarded }

/-- The link takes no reply now: a RESET is pending or the reply queue is full (R221). -/
def Link.deaf (l : Link) : Bool := l.resetDue.isSome || Config.replyQueue ≤ l.replies.length

/-- A good frame of a known kind and length is taken (R221, R225): the command acts, the step is carried to its end,
and the reply joins its queue after the reports. `awake` says that the command is refused in DORMANT (R213). In the
brown-out hold no command is taken (R209). -/
def State.take (s : State) (kind tag : Nat) (awake : Bool) (act : State → Answer) : State :=
  if s.held then s
  else if s.link.deaf then s.discardCommand
  else if awake && s.sup.power == .dormant then s.pushReply (replyKind kind) tag .state []
  else (act s).state.settle.pushReply (replyKind kind) tag (act s).status (act s).rest

/-- A command refused: its reply holds the status alone (R223). -/
def State.refuse (s : State) (status : Status) : Answer := { state := s, status := status }

/-- A command whose body carries a list: a count of items outside the list's lengths gives a body length the command
does not allow (R221, R224). -/
def State.takeSized (s : State) (kind tag : Nat) (awake fits : Bool) (act : State → Answer) : State :=
  if fits then s.take kind tag awake act else s.take kind tag false fun x => x.refuse .badLength

/-- An event at a port or a timer; in the brown-out hold every block has stopped (R209). -/
def State.event (s : State) (act : State → State) : State := if s.held then s else (act s).settle

/-- An event of a timer that is due at a moment: the clock is carried to it (log entries 2 and 3). -/
def State.timer (s : State) (due : Option Nat) (act : State → State) : State :=
  match due with
  | none => s
  | some d => s.event fun x => act (x.carryTo d)

end Sys2Proof.Machine
end

