-- ==== Sys2Proof/Machine/CardEvents.lean ====
section
/-! DEFINITION. The events of the card slots (Chapter 6). -/

namespace Sys2Proof.Machine
open Sys2Proof

/-- CARD_INSERTED (R132). -/
def execCardInserted (slot : Slot) (s : State) : Host.Outcome State Fault Refusal := .next (s.event fun x => x.insertCard slot)

/-- MOUNT_COMPLETE (R132, R146). -/
def execMountComplete (slot : Slot) (capacity : Nat) (writeProtected : Bool) (s : State) : Host.Outcome State Fault Refusal :=
  .next (s.event fun x => x.mountCard slot capacity writeProtected)

/-- MOUNT_FAILED (R132). -/
def execMountFailed (slot : Slot) (s : State) : Host.Outcome State Fault Refusal := .next (s.event fun x => x.failMount slot)

/-- MOUNT_TIMEOUT: 1,000 ms from the insertion (R132). -/
def execMountTimeout (slot : Slot) (s : State) : Host.Outcome State Fault Refusal :=
  .next (s.timer (s.slot slot).mountDue fun x => x.failMount slot)

/-- CARD_REMOVED (R133). -/
def execCardRemoved (slot : Slot) (s : State) : Host.Outcome State Fault Refusal := .next (s.event fun x => x.removeCard slot)

/-- EXTENT_WRITE_END (R139 to R142). -/
def execExtentWriteEnd (slot : Slot) (success : Bool) (s : State) : Host.Outcome State Fault Refusal :=
  .next (s.event fun x => x.extentWritten slot success)

/-- EXTENT_READ_END (R152, R153). -/
def execExtentReadEnd (slot : Slot) (success : Bool) (data : List Byte) (s : State) : Host.Outcome State Fault Refusal :=
  .next (s.event fun x => x.extentRead slot success data)

end Sys2Proof.Machine
end

