-- ==== Sys2Proof/Machine/FocusEvents.lean ====
section
/-! DEFINITION. The events of FOC (Chapter 4) and of DEV (Chapter 5). -/

namespace Sys2Proof.Machine
open Sys2Proof

/-! ### The lens (R99, R100) -/

/-- LENS_MOVING (R99). -/
def execLensMoving (s : State) : Host.Outcome State Fault Refusal := .next (s.event State.lensMoves)

/-- LENS_SETTLED (R98, R99). -/
def execLensSettled (position : Nat) (s : State) : Host.Outcome State Fault Refusal := .next (s.event fun x => x.lensSettles position)

/-- LENS_ANSWER_TIMEOUT (R100). -/
def execLensAnswerTimeout (s : State) : Host.Outcome State Fault Refusal :=
  .next (s.timer (s.foc.line.map (·.answerDue)) State.lensTimeout)

/-! ### The timers (R93, R102, R103, R205) -/

/-- An event of a timer that fires at a reading of the time base (R205, log entries 2 and 3). -/
def State.timeTimer (s : State) (due : Option Nat) (act : State → State) : State :=
  match due with
  | none => s
  | some t => s.event fun x => act (x.carryToTime t)

/-- LOST_TIMER_EXPIRY (R93). -/
def execLostTimerExpiry (s : State) : Host.Outcome State Fault Refusal := .next (s.timeTimer s.foc.lostTime State.loseSubject)

/-- The focus wait expires: the answer for its frame stays GO (R103). -/
def State.expireFocusWait (s : State) : State := s.setFoc { s.foc with wait := .expired }

/-- FOCUS_WAIT_EXPIRY (R103). -/
def execFocusWaitExpiry (s : State) : Host.Outcome State Fault Refusal := .next (s.timer s.foc.wait.due State.expireFocusWait)

/-- The reading at which the in-focus age fires: the last in-focus time plus 40,000 µs (R205). -/
def Foc.staleTime (f : Foc) : Option Nat := f.inFocusTime.map (· + 40000)

/-- The age fires: the answer stands at this reading and changes at the next, where the last in-focus time is more than
40,000 µs old, so that reading is part of the step (R102; log entry 24). -/
def State.ageOut (s : State) : State :=
  match s.foc.inFocusTime with
  | none => s
  | some t => s.carryToTime (t + 40001)

/-- IN_FOCUS_AGE_EXPIRY: the gate answers afresh as the step settles (R102, R205). -/
def execInFocusAgeExpiry (s : State) : Host.Outcome State Fault Refusal :=
  .next (s.timeTimer s.foc.staleTime State.ageOut)

/-! ### The passes (R116, R117) -/

/-- The end of a THUMB pass under way (R113). -/
def Engine.thumbDue : Engine → Option Nat
  | .thumbPass p => some p.endDue
  | .idle | .renderPass _ | .waitSpace .. => none

/-- The end of a RENDITION pass under way (R113). -/
def Engine.renderDue : Engine → Option Nat
  | .renderPass p => some p.endDue
  | .idle | .thumbPass _ | .waitSpace .. => none

/-- The pass under way completes (R116, R117). -/
def State.passOver (s : State) : State :=
  match s.dev.engine with
  | .thumbPass p => s.completeThumb p
  | .renderPass p => s.completeRender p
  | .idle | .waitSpace .. => s

/-- THUMB_PASS_END (R116). -/
def execThumbPassEnd (s : State) : Host.Outcome State Fault Refusal := .next (s.timer s.dev.engine.thumbDue State.passOver)

/-- RENDER_PASS_END (R117). -/
def execRenderPassEnd (s : State) : Host.Outcome State Fault Refusal := .next (s.timer s.dev.engine.renderDue State.passOver)

end Sys2Proof.Machine
end

