-- ==== Sys2Proof/Decode.lean ====
section
/-! DEFINITION. The reading of a command frame's body by the encoding of R224, and its writing. `decodeTableWord` is
the host's question about rows that give bits: no row of this part's table does, since its commands are frames and
events. -/

namespace Sys2Proof

/-- No row of the opcode table gives bits, so no word spells a command. -/
def decodeTableWord (_nbits _w : Nat) : Option Instr := none

namespace Machine

/-! ### Fields read in order (R224) -/

/-- A field read from the front of a body: the value and what is left, or nothing when the body is too short. -/
abbrev Field (α : Type) := List Byte → Option (α × List Byte)

/-- A field followed by another. -/
def Field.andThen {α β : Type} (f : Field α) (g : α → Field β) : Field β := fun bs =>
  match f bs with
  | none => none
  | some p => g p.1 p.2

/-- A value that takes no bytes. -/
def Field.give {α : Type} (a : α) : Field α := fun bs => some (a, bs)

/-- A field's value seen through a function. -/
def Field.map {α β : Type} (f : Field α) (g : α → β) : Field β := f.andThen fun a => Field.give (g a)

/-- A number in `k` bytes, least significant first. -/
def numField (k : Nat) : Field Nat := fun bs => if bs.length < k then none else some (leNat (bs.take k), bs.drop k)

/-- An Ethernet address, first byte on the wire first. -/
def addrField : Field Addr := fun bs =>
  if bs.length < 6 then none else some (BitVec.ofNat 48 (beNat (bs.take 6)), bs.drop 6)

/-- An enumerated value: one byte, or `none` for a byte outside the set. -/
def enumField {α : Type} (set : List α) : Field (Option α) := (numField 1).map fun n => set[n]?

/-- An optional number: a presence byte, and the value when it is 1; `none` for a presence byte outside 0 and 1
(log entry 11). -/
def optField (k : Nat) : Field (Option (Option Nat)) :=
  (numField 1).andThen fun p =>
    if p = 0 then Field.give (some none)
    else if p = 1 then (numField k).map fun n => some (some n)
    else Field.give none

/-- `n` items one after another. -/
def itemsField {α : Type} (f : Field α) : Nat → Field (List α)
  | 0 => Field.give []
  | n + 1 => f.andThen fun a => (itemsField f n).map fun as => a :: as

/-- A list with a count of one byte. -/
def listField {α : Type} (f : Field α) : Field (List α) := (numField 1).andThen (itemsField f)

/-- A pair of fields. -/
def pairField {α β : Type} (f : Field α) (g : Field β) : Field (α × β) := f.andThen fun a => g.map fun b => (a, b)

/-- A report kind by its code, 0x01 to 0x1C (R228). -/
def kindField : Field (Option ReportKind) := (numField 1).map fun n => if n = 0 then none else ReportKind.all[n - 1]?

/-! ### The commands' fields -/

/-- SET_CAPTURE's fields (R39). -/
def captureField : Field CaptureArgs :=
  (numField 4).andThen fun exposure => (numField 1).andThen fun gain => (enumField Depth.all).andThen fun depth =>
  (numField 2).andThen fun left => (numField 2).andThen fun top => (numField 2).andThen fun width =>
  (numField 2).andThen fun height => (enumField DriveMode.all).andThen fun drive => (numField 1).andThen fun rate =>
  (numField 1).andThen fun ringDepth => (numField 2).andThen fun debounce => (enumField offOn).andThen fun trigger =>
  (numField 2).map fun step =>
    { exposure := exposure, gain := gain, depth := depth, left := left, top := top, width := width, height := height,
      drive := drive, rate := rate, ringDepth := ringDepth, debounce := debounce, trigger := trigger, step := step }

/-- SET_SYNC's fields (R59). -/
def syncField : Field SyncArgs :=
  (numField 1).andThen fun period => (numField 2).andThen fun mask => (numField 4).andThen fun delay =>
  (numField 4).andThen fun duration => (numField 2).map fun wait =>
    { period := period, mask := BitVec.ofNat 16 mask, delay := delay, duration := duration, wait := wait }

/-- SET_AF's fields (R78). -/
def afField : Field AfArgs :=
  (enumField AfMode.all).andThen fun mode => (numField 1).andThen fun left => (numField 1).andThen fun top =>
  (numField 1).andThen fun width => (numField 1).andThen fun height => (numField 1).andThen fun minConf =>
  (numField 1).andThen fun tolerance => (numField 2).andThen fun focusWait => (numField 2).map fun searchStep =>
    { mode := mode, left := left, top := top, width := width, height := height, minConf := minConf,
      tolerance := tolerance, focusWait := focusWait, searchStep := searchStep }

/-- SET_LENS's fields (R95). -/
def lensField : Field LensArgs :=
  (enumField flagValues).andThen fun present => (numField 2).andThen fun near => (numField 2).andThen fun far =>
  (numField 2).andThen fun gain => (numField 2).andThen fun maxPredict => (numField 2).map fun position =>
    { present := present, near := near, far := far, gain := gain, maxPredict := maxPredict, position := position }

/-- SET_LOOK's fields after the slot (R121, R122). -/
def lookField : Field LookArgs :=
  (enumField WbMode.all).andThen fun wb => (numField 2).andThen fun gR => (numField 2).andThen fun gG =>
  (numField 2).andThen fun gB => (numField 1).andThen fun curve => (enumField Scale.all).andThen fun scale =>
  (enumField flagValues).andThen fun auto => (enumField flagValues).map fun select =>
    { wb := wb, gR := gR, gG := gG, gB := gB, curve := curve, scale := scale, auto := auto, select := select }

/-- SET_TETHER's fields (R176, R197). -/
def tetherField : Field TetherArgs :=
  addrField.andThen fun station => addrField.andThen fun part => (numField 2).andThen fun etherType =>
  (numField 2).andThen fun ackTimeout => (enumField onOff).andThen fun autoRejoin => (enumField onOff).andThen fun pullList =>
  (enumField onOff).andThen fun pullThumb => (enumField onOff).andThen fun pullRendition =>
  (enumField onOff).andThen fun pullRaw => (numField 1).andThen fun pullCap => (numField 1).map fun urgentLevel =>
    { station := station, part := part, etherType := etherType, ackTimeout := ackTimeout, autoRejoin := autoRejoin,
      pullList := pullList, pullThumb := pullThumb, pullRendition := pullRendition, pullRaw := pullRaw,
      pullCap := pullCap, urgentLevel := urgentLevel }

/-- SET_SEND_RULE's fields after the index (R192). -/
def ruleField : Field RuleArgs :=
  (enumField RuleMatch.values).andThen fun matching => (enumField Pict.all).andThen fun kind =>
  (numField 1).andThen fun priority => (optField 4).andThen fun offset => (enumField Policy.all).map fun policy =>
    { matching := matching, kind := kind, priority := priority, offset := offset, policy := policy }

/-- The fields of a command kind under a TAG (10.5); `none` is a KIND outside the catalogue. -/
def commandField (tag : Nat) : Nat → Option (Field Instr)
  | 0x01 => some (Field.give (.identify tag))
  | 0x02 => some ((listField (enumField StatusPart.all)).map (.getStatus tag))
  | 0x03 => some ((numField 1).andThen fun n => (enumField LineSel.all).map (.readReports tag n))
  | 0x04 => some ((listField (pairField (kindField) (enumField Route.all))).map (.setRoutes tag))
  | 0x05 => some (Field.give (.reset tag))
  | 0x10 => some ((numField 8).map (.setTime tag))
  | 0x11 => some ((enumField PowerState.all).map (.setPower tag))
  | 0x12 => some ((numField 2).andThen fun low => (numField 2).map (.setThresholds tag low))
  | 0x13 => some (Field.give (.saveSettings tag))
  | 0x20 => some (captureField.map (.setCapture tag))
  | 0x21 => some (syncField.map (.setSync tag))
  | 0x22 => some ((enumField ReleaseAction.all).map (.release tag))
  | 0x23 => some ((numField 4).map (.setShotBase tag))
  | 0x28 => some (afField.map (.setAf tag))
  | 0x29 => some (lensField.map (.setLens tag))
  | 0x30 => some ((numField 4).andThen fun start => (numField 1).map (.listShots tag start))
  | 0x31 => some ((numField 4).map (.readShot tag))
  | 0x32 => some ((numField 4).andThen fun n => (numField 4).andThen fun o => (numField 2).map (.readThumb tag n o))
  | 0x33 => some ((numField 4).andThen fun n => (enumField TagAction.all).andThen fun u =>
      (enumField TagAction.all).andThen fun p => (optField 1).map (.tagShot tag n u p))
  | 0x34 => some ((numField 4).andThen fun n => (enumField Pict.all).map (.hold tag n))
  | 0x35 => some ((numField 4).andThen fun n => (enumField Pict.all).map (.unhold tag n))
  | 0x36 => some ((numField 4).map (.deleteShot tag))
  | 0x37 => some ((numField 2).andThen fun position => (numField 1).map (.readCardIndex tag position))
  | 0x40 => some ((numField 1).andThen fun slot => lookField.map (.setLook tag slot))
  | 0x41 => some ((numField 1).andThen fun slot => (listField (numField 2)).map (.setCurve tag slot))
  | 0x42 => some ((numField 4).andThen fun n => (numField 1).map (.develop tag n))
  | 0x48 => some ((enumField CardMode.all).andThen fun m => (enumField CardContent.all).map (.setCardMode tag m))
  | 0x49 => some ((enumField Slot.all).andThen fun sl => (numField 2).andThen fun mount => (numField 4).andThen fun start =>
      (numField 4).map (.grantWindow tag sl mount start))
  | 0x4A => some ((numField 4).andThen fun n => (enumField Pict.all).map (.recall tag n))
  | 0x50 => some (tetherField.map (.setTether tag))
  | 0x51 => some ((numField 1).andThen fun index => ruleField.map (.setSendRule tag index))
  | 0x52 => some ((numField 4).andThen fun n => (enumField Pict.all).andThen fun k => (numField 1).andThen fun p =>
      (optField 8).andThen fun d => (enumField Policy.all).map (.enqueue tag n k p d))
  | 0x53 => some ((numField 4).map (.cancelItem tag))
  | 0x54 => some ((numField 1).andThen fun position => (numField 1).map (.readQueue tag position))
  | 0x55 => some ((numField 2).andThen fun pull => (enumField PullAnswer.all).andThen fun a =>
      (numField 1).map (.answerPull tag pull a))
  | 0x56 => some (Field.give (.rejoin tag))
  | _ => none

/-- How a good frame's KIND, TAG and BODY read (R221). -/
inductive Decoded where
  | badKind
  | badLength
  | command (c : Instr)
  deriving DecidableEq, Repr

/-- A good frame read (R221, R224): the body must be used up by the fields. -/
def decodeCommand (kind tag : Nat) (body : List Byte) : Decoded :=
  match commandField tag kind with
  | none => .badKind
  | some f =>
    match f body with
    | some (c, []) => .command c
    | _ => .badLength

/-! ### Commands written as frames -/

/-- An enumerated value as the host writes it; a value outside the set is written 0xFF. -/
def putEnum {α : Type} [BEq α] (set : List α) : Option α → List Byte
  | none => [0xFF]
  | some a => code set a

/-- A report kind as the host writes it (R228). -/
def putKind : Option ReportKind → List Byte
  | none => [0xFF]
  | some k => le 1 k.number

/-- An optional number as the host writes it; a presence byte outside 0 and 1 is written 0xFF. -/
def putOpt (k : Nat) : Option (Option Nat) → List Byte
  | none => [0xFF]
  | some v => opt (le k) v

/-- SET_CAPTURE's body (R39). -/
def putCapture (a : CaptureArgs) : List Byte :=
  le 4 a.exposure ++ (le 1 a.gain ++ (putEnum Depth.all a.depth ++ (le 2 a.left ++ (le 2 a.top ++ (le 2 a.width
    ++ (le 2 a.height ++ (putEnum DriveMode.all a.drive ++ (le 1 a.rate ++ (le 1 a.ringDepth ++ (le 2 a.debounce
    ++ (putEnum offOn a.trigger ++ le 2 a.step)))))))))))

/-- SET_SYNC's body (R59). -/
def putSync (a : SyncArgs) : List Byte :=
  le 1 a.period ++ (le 2 a.mask.toNat ++ (le 4 a.delay ++ (le 4 a.duration ++ le 2 a.wait)))

/-- SET_AF's body (R78). -/
def putAf (a : AfArgs) : List Byte :=
  putEnum AfMode.all a.mode ++ (le 1 a.left ++ (le 1 a.top ++ (le 1 a.width ++ (le 1 a.height ++ (le 1 a.minConf
    ++ (le 1 a.tolerance ++ (le 2 a.focusWait ++ le 2 a.searchStep)))))))

/-- SET_LENS's body (R95). -/
def putLens (a : LensArgs) : List Byte :=
  putEnum flagValues a.present ++ (le 2 a.near ++ (le 2 a.far ++ (le 2 a.gain ++ (le 2 a.maxPredict ++ le 2 a.position))))

/-- SET_LOOK's body after the slot (R122). -/
def putLook (a : LookArgs) : List Byte :=
  putEnum WbMode.all a.wb ++ (le 2 a.gR ++ (le 2 a.gG ++ (le 2 a.gB ++ (le 1 a.curve ++ (putEnum Scale.all a.scale
    ++ (putEnum flagValues a.auto ++ putEnum flagValues a.select))))))

/-- SET_TETHER's body (R176, R197). -/
def putTether (a : TetherArgs) : List Byte :=
  addr a.station ++ (addr a.part ++ (le 2 a.etherType ++ (le 2 a.ackTimeout ++ (putEnum onOff a.autoRejoin
    ++ (putEnum onOff a.pullList ++ (putEnum onOff a.pullThumb ++ (putEnum onOff a.pullRendition
    ++ (putEnum onOff a.pullRaw ++ (le 1 a.pullCap ++ le 1 a.urgentLevel)))))))))

/-- SET_SEND_RULE's body after the index (R192). -/
def putRule (a : RuleArgs) : List Byte :=
  putEnum RuleMatch.values a.matching ++ (putEnum Pict.all a.kind ++ (le 1 a.priority ++ (putOpt 4 a.offset
    ++ putEnum Policy.all a.policy)))

/-- A host command's KIND, TAG and BODY; `none` is an event. -/
def Command.parts : Instr → Option (Nat × Nat × List Byte)
  | .identify t => some (0x01, t, [])
  | .getStatus t ps => some (0x02, t, listOf 1 (putEnum StatusPart.all) ps)
  | .readReports t n l => some (0x03, t, le 1 n ++ putEnum LineSel.all l)
  | .setRoutes t ps => some (0x04, t, listOf 1 (fun p => putKind p.1 ++ putEnum Route.all p.2) ps)
  | .reset t => some (0x05, t, [])
  | .setTime t v => some (0x10, t, le 8 v)
  | .setPower t p => some (0x11, t, putEnum PowerState.all p)
  | .setThresholds t l c => some (0x12, t, le 2 l ++ le 2 c)
  | .saveSettings t => some (0x13, t, [])
  | .setCapture t a => some (0x20, t, putCapture a)
  | .setSync t a => some (0x21, t, putSync a)
  | .release t a => some (0x22, t, putEnum ReleaseAction.all a)
  | .setShotBase t n => some (0x23, t, le 4 n)
  | .setAf t a => some (0x28, t, putAf a)
  | .setLens t a => some (0x29, t, putLens a)
  | .listShots t a n => some (0x30, t, le 4 a ++ le 1 n)
  | .readShot t n => some (0x31, t, le 4 n)
  | .readThumb t n o l => some (0x32, t, le 4 n ++ (le 4 o ++ le 2 l))
  | .tagShot t n u p r => some (0x33, t, le 4 n ++ (putEnum TagAction.all u ++ (putEnum TagAction.all p ++ putOpt 1 r)))
  | .hold t n k => some (0x34, t, le 4 n ++ putEnum Pict.all k)
  | .unhold t n k => some (0x35, t, le 4 n ++ putEnum Pict.all k)
  | .deleteShot t n => some (0x36, t, le 4 n)
  | .readCardIndex t p n => some (0x37, t, le 2 p ++ le 1 n)
  | .setLook t sl a => some (0x40, t, le 1 sl ++ putLook a)
  | .setCurve t sl ps => some (0x41, t, le 1 sl ++ listOf 1 (le 2) ps)
  | .develop t n l => some (0x42, t, le 4 n ++ le 1 l)
  | .setCardMode t m c => some (0x48, t, putEnum CardMode.all m ++ putEnum CardContent.all c)
  | .grantWindow t sl m a l => some (0x49, t, putEnum Slot.all sl ++ (le 2 m ++ (le 4 a ++ le 4 l)))
  | .recall t n k => some (0x4A, t, le 4 n ++ putEnum Pict.all k)
  | .setTether t a => some (0x50, t, putTether a)
  | .setSendRule t i a => some (0x51, t, le 1 i ++ putRule a)
  | .enqueue t n k p d e => some (0x52, t, le 4 n ++ (putEnum Pict.all k ++ (le 1 p ++ (putOpt 8 d ++ putEnum Policy.all e))))
  | .cancelItem t m => some (0x53, t, le 4 m)
  | .readQueue t p n => some (0x54, t, le 1 p ++ le 1 n)
  | .answerPull t p a r => some (0x55, t, le 2 p ++ (putEnum PullAnswer.all a ++ le 1 r))
  | .rejoin t => some (0x56, t, [])
  | .chipSelectFall | .chipSelectRise | .lengthOversize _ | .frameComplete _ | .replyRead _ | .resetPendingTimeout _ => none
  | .pinReset _ | .brownoutHold | .powerLoss | .supplyRecovered _ | .supplyReading _ | .wakeEnd | .settingsWriteEnd _ => none
  | .warmupEnd | .liveFrame _ | .lineLevelChange .. | .debounceRecognized _ | .flashReadyChange _ | .flashWaitExpiry => none
  | .flashPulseStart | .flashPulseEnd | .frameOpportunity | .exposureEnd | .obRowsEnd _ | .readoutEnd .. => none
  | .lensMoving | .lensSettled _ | .lensAnswerTimeout | .lostTimerExpiry | .focusWaitExpiry | .inFocusAgeExpiry => none
  | .thumbPassEnd | .renderPassEnd | .cardInserted _ | .mountComplete .. | .mountFailed _ | .mountTimeout _ => none
  | .cardRemoved _ | .extentWriteEnd .. | .extentReadEnd .. | .carrierUp | .carrierDown | .relayFrameBad _ => none
  | .relayFrameDisregarded _ | .acceptReceived .. | .refuseReceived .. | .ackReceived .. | .nakReceived .. => none
  | .beaconReceived .. | .pullReceived .. | .beaconLoss | .offerTimeout | .ackTimeout | .portFree => none
  | .deadlineExpiry _ | .syncByte => none

/-- A host command as its frame, from the first LENGTH byte through the second CHECK byte (R233). -/
def Command.frame (c : Instr) : Option (List Byte) := (Command.parts c).map fun p => frameBytes p.1 p.2.1 p.2.2

end Machine
end Sys2Proof
end

