-- ==== Sys2Proof/Machine/Supervisor.lean ====
section
/-! DEFINITION. The Supervisor: readings, the power state, resets, the brown-out hold and the settings store
(Chapter 9). -/

namespace Sys2Proof.Machine
open Sys2Proof

/-! ### Readings and thresholds (R206 to R208) -/

/-- The level is judged from the last reading, and a change acts (R206, R207). -/
def State.judgeLevel (s : State) : State :=
  s.setLevel (levelAfter s.settings.low s.settings.critical s.sup.level s.sup.reading)

/-- A reading of the supply is taken (R206). -/
def State.takeReading (s : State) (millivolts : Nat) : State :=
  (s.setSup { s.sup with reading := millivolts, readingDue := s.sup.elapsed + 1000 }).judgeLevel

/-! ### Power states (R211, R212, R214) -/

/-- The conditions of SET_POWER DORMANT in the order of R212. -/
inductive DormantBar where
  | entries | writes | recalls | items
  deriving DecidableEq, Repr

/-- R212. -/
def DormantBar.all : List DormantBar := [.entries, .writes, .recalls, .items]

/-- A condition of R212 fails. -/
def State.barred (s : State) : DormantBar → Bool
  | .entries => s.sbm.shots.any Option.isSome
  | .writes => !s.crd.a.queue.isEmpty || !s.crd.b.queue.isEmpty
  | .recalls => !s.crd.a.recalls.isEmpty || !s.crd.b.recalls.isEmpty
  | .items => !s.tet.items.isEmpty

/-- The power state becomes DORMANT and the DRAM goes off (R212). -/
def State.sleep (s : State) : State :=
  let s1 := s.setPowerState .dormant
  s1.setSbm { s1.sbm with dramOn := false }

/-- SET_POWER DORMANT out of ACTIVE or STANDBY (R212). -/
def State.askDormant (s : State) : Answer :=
  if DormantBar.all.any s.barred then { state := s, status := .state, rest := setOf DormantBar.all s.barred }
  else { state := s.sleep, status := .ok }

/-- SET_POWER by the power state in force (R211). -/
def State.askPower (s : State) (target : PowerState) : Answer :=
  match s.sup.power, target with
  | .active, .active => { state := s, status := .ok }
  | .active, .standby => { state := s.setPowerState .standby, status := .ok }
  | .standby, .active => { state := s.wokenTo .active .command, status := .ok }
  | .standby, .standby => { state := s, status := .ok }
  | .active, .dormant | .standby, .dormant => s.askDormant
  | .dormant, .active => { state := s.wakeTo .active .command, status := .ok }
  | .dormant, .standby => { state := s.wakeTo .standby .command, status := .ok }
  | .dormant, .dormant => { state := s, status := if s.sup.wake.isSome then .busy else .ok }

/-- The wake ends and the power state becomes its target (R214). -/
def State.endWake (s : State) (w : Wake) : State :=
  (s.setSup { s.sup with wake := none }).wokenTo w.target w.cause

/-! ### Resets (R206, R207, R215, R216) -/

/-- The time base after a reset (R203). -/
def ResetCause.timeBase (c : ResetCause) (now : Nat) : Nat := if c = .command then now else 0

/-- A reset of any kind, with its first supply reading (R36, R66, R86, R105, R128, R155, R178, R202, R215, R232). -/
def State.afterReset (s : State) (cause : ResetCause) (reading : Nat) : State :=
  let st := s.sup.store.atReset
  { pending := s.pending, notices := [], pins := s.pins, link := Link.reset s.pins,
    sup := Sup.reset st cause (cause.timeBase s.sup.timeBase) s.sup.elapsed reading,
    cap := Cap.reset s.pins s.sup.elapsed, foc := Foc.reset, sbm := Sbm.reset, dev := Dev.reset, crd := Crd.reset,
    tet := Tet.reset, settings := st.settings }

/-- The reset, and POWER_LEVEL when the first reading gives LOW or CRITICAL (R207). -/
def State.doReset (s : State) (cause : ResetCause) (reading : Nat) : State :=
  let s1 := s.afterReset cause reading
  if s1.sup.level = .normal then s1 else s1.raise .powerLevel (powerFields s1 none)

/-! ### The settings store (R217) -/

/-- A settings write starts with a copy of the working settings; until it ends the image is incomplete (R217). -/
def State.startWrite (s : State) : State :=
  s.setSup { s.sup with store := { s.sup.store with mark := .writing, image := none, copy := some s.settings,
                                                    writeDue := some (s.sup.elapsed + 180000) } }

/-- The store a write leaves: the new image with its CRC-32, or no image that passes (R216, R217; log entry 15). -/
def Store.written (st : Store) (passes : Bool) : Store :=
  if passes then
    { mark := .valid, image := st.copy, crc := (st.copy.getD Settings.factory).crc, copy := none, writeDue := none }
  else { st with mark := .failing, image := none, copy := none, writeDue := none }

/-- The outcomes of SETTINGS_SAVED (R217). -/
inductive SaveOutcome where
  | done | failed
  deriving DecidableEq, Repr

/-- SETTINGS_SAVED's fields (R217). -/
def savedFields (o : SaveOutcome) (time : Nat) : List Byte := code [SaveOutcome.done, .failed] o ++ le 8 time

/-- The write ends and the image read back is checked (R217; log entry 15). -/
def State.endWrite (s : State) (passes : Bool) : State :=
  (s.setSup { s.sup with store := s.sup.store.written passes }).raise .settingsSaved
    (savedFields (if passes then .done else .failed) s.sup.timeBase)

/-! ### The time base set (R204, R205) -/

/-- Every exposure start time SET_TIME may not step below (R204). -/
def State.heldTimes (s : State) : List Nat :=
  s.sbm.shots.filterMap (fun e => e.map (·.startTime)) ++ s.sbm.cardIndex.map (·.startTime)
    ++ s.allRecalls.map (·.fields.startTime)

/-- The time base is set, and what it passes expires (R204, R205). -/
def State.setTimeBase (s : State) (t : Nat) : State :=
  ((s.setSup { s.sup with timeBase := t }).loseSubject).expirePassed

end Sys2Proof.Machine
end

