-- ==== Sys2Proof/Machine/Status.lean ====
section
/-! DEFINITION. What the part tells the host of itself: the nine parts of a status reply (R230), the shot summaries
and records (R32, R33), the card index entries (R35) and the tether items (R196), encoded by R224. -/

namespace Sys2Proof.Machine
open Sys2Proof

/-! ### Shots, objects and the card index -/

/-- A fill state: FILLING or COMPLETE (R14). -/
def fillCode (o : Obj) : List Byte := code [false, true] o.complete

/-- The four card statuses (R13). -/
def CardStatuses.bytes (c : CardStatuses) : List Byte :=
  code CardStatus.all c.rawA ++ code CardStatus.all c.rawB ++ code CardStatus.all c.renditionA
    ++ code CardStatus.all c.renditionB

/-- A shot summary; the thumbnail's presence is a flag (log entry 9), and each object is an optional group whose scale is
optional within it (R32; log entry 39). -/
def summaryBytes (i : Nat) (sh : Shot) : List Byte :=
  le 4 (sh.number.getD 0) ++ le 1 i ++ sh.state.code ++ le 8 sh.startTime ++ code Verdict.all sh.verdict
    ++ flag sh.urgent ++ flag sh.picked ++ le 1 sh.rating ++ flag sh.thumb.isSome ++ opt fillCode sh.raw
    ++ opt (fun o : Obj => fillCode o ++ opt (code Scale.all) o.scale) sh.rendition ++ sh.cards.bytes
    ++ flag sh.reinstated ++ flag sh.deleting

/-- A look snapshot (R12). -/
def JobLook.bytes (l : JobLook) : List Byte :=
  le 1 l.index ++ code WbMode.all l.wb ++ le 2 l.gains.r ++ le 2 l.gains.g ++ le 2 l.gains.b

/-- A crop window. -/
def Crop.bytes (c : Crop) : List Byte := le 2 c.left ++ le 2 c.top ++ le 2 c.width ++ le 2 c.height

/-- An exposure snapshot (R12). -/
def Snapshot.bytes (p : Snapshot) : List Byte := le 4 p.exposure ++ le 1 p.gain ++ code Depth.all p.depth ++ p.crop.bytes

/-- Frame statistics (R12, R63). -/
def Stats.bytes (t : Stats) : List Byte :=
  le 2 t.obMean ++ le 2 t.black ++ le 8 t.sr ++ le 8 t.sg ++ le 8 t.sb ++ le 4 t.unclipped ++ le 4 t.clipped

/-- A present object, as READ_SHOT gives it (R33). -/
def Obj.bytes (k : Pict) (o : Obj) : List Byte :=
  code Pict.all k ++ le 4 o.size ++ le 1 o.extents.length ++ fillCode o ++ setOf Hold.all o.holds.has
    ++ opt (code Scale.all) o.scale ++ flag o.cardBound

/-- A shot record, as R12 lists it; the thumbnail's presence is a flag (R33; log entry 9). -/
def recordBytes (i : Nat) (sh : Shot) : List Byte :=
  le 1 i ++ sh.state.code ++ opt (le 4) sh.number ++ le 8 sh.startTime ++ opt Snapshot.bytes sh.snapshot
    ++ opt Stats.bytes sh.stats ++ code Verdict.all sh.verdict ++ opt (le 2) sh.lensPosition ++ opt (le 1) sh.zone
    ++ opt (code Flash.all) sh.flash ++ flag sh.urgent ++ flag sh.picked ++ le 1 sh.rating ++ opt JobLook.bytes sh.look
    ++ flag sh.wbFallback ++ flag sh.thumb.isSome ++ opt (Obj.bytes .raw) sh.raw ++ opt (Obj.bytes .rendition) sh.rendition
    ++ sh.cards.bytes ++ flag sh.reinstated ++ flag sh.deleting

/-- A card index entry (R26). -/
def IndexEntry.bytes (e : IndexEntry) : List Byte :=
  le 4 e.shot ++ le 8 e.startTime ++ code Pict.all e.kind ++ opt (code Scale.all) e.scale ++ code Slot.all e.slot
    ++ le 2 e.mount ++ le 4 e.start ++ le 4 e.blocks ++ le 4 e.size ++ code Verdict.all e.verdict ++ flag e.urgent
    ++ flag e.picked ++ le 1 e.rating

/-- A tether item (R180, R196). -/
def Item.bytes (x : Item) : List Byte :=
  le 4 x.number ++ le 4 x.shot ++ opt (le 1) x.entry ++ code Pict.all x.kind ++ le 1 x.priority ++ le 8 x.seq
    ++ opt (le 8) x.deadline ++ code Policy.all x.policy ++ code Origin.all x.origin ++ code ItemState.all x.state
    ++ opt (le 4) x.resume ++ flag x.overdue

/-- The items in each state (R196, R202). -/
def Tet.stateCounts (t : Tet) : List Byte :=
  ItemState.all.flatMap fun st => le 1 (t.items.countP (·.state == st))

/-! ### Settings as replies give them -/

/-- A send rule (R192). -/
def SendRule.bytes (r : SendRule) : List Byte :=
  code RuleMatch.values r.matching ++ code Pict.all r.kind ++ le 1 r.priority ++ opt (le 4) r.offset ++ code Policy.all r.policy

/-- A station address, absent when unset (R224). -/
def stationField (a : Addr) : List Byte := opt addr (if a = 0 then none else some a)

/-- The link fields of the tether settings (R176). -/
def TetherSettings.linkBytes (t : TetherSettings) : List Byte :=
  stationField t.station ++ addr t.part ++ le 2 t.etherType ++ le 2 t.ackTimeout ++ code onOff t.autoRejoin

/-- The queue-side fields of the tether settings (R197). -/
def TetherSettings.queueBytes (t : TetherSettings) : List Byte :=
  code onOff t.pullList ++ code onOff t.pullThumb ++ code onOff t.pullRendition ++ code onOff t.pullRaw ++ le 1 t.pullCap
    ++ le 1 t.urgentLevel

/-- A look (R121). -/
def Look.bytes (l : Look) : List Byte :=
  code WbMode.all l.wb ++ le 2 l.gains.r ++ le 2 l.gains.g ++ le 2 l.gains.b ++ le 1 l.curve ++ code Scale.all l.scale
    ++ flag l.auto

/-- The routing table: a count of 28, and the routes in the order of the report codes (R228, R232; log entry 58). -/
def Settings.routeBytes (g : Settings) : List Byte := listOf 1 (code Route.all) g.routes

/-! ### The nine parts (R230) -/

/-- A moment of elapsed time on the time base as it stands (R205). -/
def State.momentBytes (s : State) (m : Nat) : List Byte := le 8 (s.timeOf m)

/-- LINK; the reply itself counts as unread (R232). -/
def State.linkPart (s : State) : List Byte :=
  le 1 (s.link.replies.length + 1) ++ le 1 s.link.reports.length ++ le 1 (s.link.reports.countP (·.line == .line0))
    ++ le 1 (s.link.reports.countP (·.line == .line1)) ++ le 2 s.link.nextSeq ++ le 2 s.link.lost ++ le 4 s.link.errors
    ++ opt (code LinkError.all) s.link.lastError ++ le 4 s.link.discarded ++ s.settings.routeBytes

/-- SUPERVISOR; the reading takes 2 bytes, as the thresholds do (R218; log entry 10). -/
def State.supervisorPart (s : State) : List Byte :=
  le 8 s.sup.timeBase ++ le 2 s.sup.reading ++ code PowerLevel.all s.sup.level ++ le 2 s.settings.low
    ++ le 2 s.settings.critical ++ code PowerState.all s.sup.power
    ++ opt (code PowerState.all) (s.sup.wake.map (·.target)) ++ opt s.momentBytes (s.sup.wake.map (·.endDue))
    ++ code StoreMark.all s.sup.store.mark ++ opt s.momentBytes s.sup.store.writeDue ++ code ResetCause.all s.sup.cause
    ++ flag s.sup.defaulted

/-- The pending frame, for the status reply. -/
def Cap.pendingFrame (c : Cap) : Option Frame := if c.framePending then c.frame else none

/-- CAPTURE (R67). -/
def State.capturePart (s : State) : List Byte :=
  let c := s.cap
  code SensorState.all c.sensor ++ code DriveState.all c.drive ++ opt (code DriveMode.all) (c.sequence.map (·.drive))
    ++ le 1 c.ring.length ++ flag c.framePending ++ opt s.momentBytes (c.pendingFrame.map (·.opp))
    ++ opt flag (c.pendingFrame.map (·.stalled.isSome)) ++ opt (code Lack.all) (c.pendingFrame.bind (·.stalled))
    ++ code HostRelease.all c.host ++ flag c.half ++ flag c.full ++ flag c.relHalf.recognized ++ flag c.relFull.recognized
    ++ flag c.trigIn.recognized ++ flag s.pins.flashRdy ++ le 1 c.pattern ++ opt (le 2) c.black
    ++ opt (le 4) (c.sequence.map fun q => q.exposure s.settings.capture.exposure)
    ++ opt (le 4) (c.sequence.map (·.interval))

/-- The AF settings MEASUREMENT gives (R86). -/
def AfSettings.areaBytes (a : AfSettings) : List Byte :=
  code AfMode.all a.mode ++ le 1 a.area.left ++ le 1 a.area.top ++ le 1 a.area.width ++ le 1 a.area.height
    ++ le 1 a.minConf ++ le 1 a.tolerance

/-- MEASUREMENT (R86). -/
def State.measurementPart (s : State) : List Byte :=
  le 4 s.foc.measureCount ++ opt (le 8) (s.foc.zone 0).time ++ s.settings.af.areaBytes ++ le 1 s.foc.eligible
    ++ opt (fun c : Selected => le 1 c.zone ++ twos 2 c.phase ++ le 1 c.confidence ++ le 8 c.time
                                 ++ flag (inFocus s.settings.af.tolerance c.phase false)) s.foc.selected

/-- A lens record (R94). -/
def Lens.bytes (l : Lens) : List Byte := le 2 l.near ++ le 2 l.far ++ le 2 l.gain ++ le 2 l.maxPredict

/-- FOCUS (R105). The line is QUIET or AWAITING (R98). -/
def State.focusPart (s : State) : List Byte :=
  let f := s.foc
  code FocusState.all f.state ++ flag s.focusActive ++ opt Lens.bytes f.lens ++ opt (le 2) f.position
    ++ code [false, true] f.line.isSome ++ opt (le 2) (f.line.map (·.target)) ++ opt (le 1) (f.line.map (·.attempt))
    ++ opt (le 2) (f.pendingTarget.map (·.1)) ++ le 4 f.superseded ++ le 4 f.repeats ++ opt (code MoveKind.all) f.lastMove
    ++ le 1 f.history.length ++ opt (le 8) f.inFocusTime ++ opt (code SweepDir.all) (f.sweep.map (·.dir))
    ++ opt flag (f.sweep.map (·.reversed)) ++ opt (code Gate.all) f.gate ++ opt s.momentBytes f.wait.due

/-- The engine's code (R112). -/
def Engine.code : Engine → List Byte
  | .idle => [0]
  | .thumbPass _ => [1]
  | .renderPass _ => [2]
  | .waitSpace .. => [3]

/-- The active pass. -/
def Engine.pass : Engine → Option Pass
  | .thumbPass p | .renderPass p => some p
  | .idle | .waitSpace .. => none

/-- The active job or the waiting head (R129). -/
def State.shownJob (s : State) : Option Job :=
  match s.dev.engine with
  | .idle => none
  | .thumbPass p => s.passJob p .thumb
  | .renderPass p => s.passJob p .rendition
  | .waitSpace .. => s.headJob

/-- The scale and extent count of a RENDITION pass (R129). -/
def Engine.rendition : Engine → Option (Output × Nat)
  | .renderPass p => some (p.recipe.output, extentsFor (p.recipe.output.size p.recipe.width p.recipe.height))
  | .idle | .thumbPass _ | .waitSpace .. => none

/-- What WAIT_SPACE keeps (R129). -/
def Engine.waited : Engine → Option (Nat × Nat)
  | .waitSpace asked free => some (asked, free)
  | .idle | .thumbPass _ | .renderPass _ => none

/-- DEVELOPMENT; the eight looks are a list (R129; log entry 58). -/
def State.developmentPart (s : State) : List Byte :=
  let e := s.dev.engine
  let j := s.shownJob
  e.code ++ opt (le 4) (j.map (·.shot)) ++ opt (code Pict.all) (j.map (·.kind)) ++ opt (le 1) (j.map (·.look.index))
    ++ opt flag (j.map (·.urgent)) ++ opt (le 8) (e.pass.map (·.startTime))
    ++ opt (code Scale.all) (e.rendition.bind (·.1.scale)) ++ opt (le 1) (e.rendition.map (·.2))
    ++ opt (le 1) (e.waited.map (·.1)) ++ opt (le 2) (e.waited.map (·.2))
    ++ [0, 1, 2].flatMap (fun k => le 1 (s.dev.queue.countP (·.cls == k)))
    ++ le 1 (s.dev.queue.countP fun x => !s.jobReady x) ++ le 1 s.settings.currentLook
    ++ listOf 1 (fun p : Look × Nat => le 1 p.2 ++ p.1.bytes) s.settings.looks.zipIdx
    ++ le 4 s.dev.completed ++ le 4 s.dev.served ++ le 4 s.dev.abandoned

/-- A window (R134). -/
def Window.bytes (w : Window) : List Byte := le 4 w.start ++ le 4 w.length

/-- A recall as CARDS gives it (R156). -/
def Recall.bytes (r : Recall) : List Byte :=
  le 4 r.shot ++ code Pict.all r.kind ++ code RecallState.all r.state ++ le 1 r.read

/-- One slot as CARDS gives it; a card is mounted once it has given its capacity (R132, R156). -/
def CardSlot.bytes (c : CardSlot) : List Byte :=
  let j := c.jobs.1.head?
  code SlotState.all c.state ++ flag c.readMark ++ opt (le 2) (c.capacity.bind fun _ => c.mount) ++ opt (le 4) c.capacity
    ++ opt Window.bytes c.window
    ++ opt (le 4) (c.window.map fun _ => c.cursor) ++ opt (le 4) (c.window.map fun _ => c.remaining)
    ++ opt Window.bytes c.pendingWindow ++ le 1 c.jobs.2.length ++ opt (le 4) (j.map (·.shot))
    ++ opt (code Pict.all) (j.map (·.kind)) ++ opt (le 4) (j.bind (·.start)) ++ opt (le 4) (j.map (·.blocks))
    ++ opt (le 1) (j.map (·.written)) ++ le 1 c.retry ++ listOf 1 Recall.bytes c.recalls

/-- CARDS (R156). -/
def State.cardsPart (s : State) : List Byte :=
  code CardMode.all s.settings.cardMode ++ code CardContent.all s.settings.cardContent ++ s.crd.a.bytes ++ s.crd.b.bytes
    ++ flag s.draining

/-- The conditions for a free link in the order of R167. -/
inductive FreeBar where
  | state | transfer | level | status
  deriving DecidableEq, Repr

/-- R167. -/
def FreeBar.all : List FreeBar := [.state, .transfer, .level, .status]

/-- A condition of R167 fails. -/
def State.linkBar (s : State) : FreeBar → Bool
  | .state => !s.tet.state.carries
  | .transfer => s.tet.transfer.isSome
  | .level => s.sup.level == .critical
  | .status => s.tet.status != some .opened

/-- The active transfer as TETHER_LINK gives it; the offer count takes 4 bytes (R179; log entry 10). -/
def State.transferBytes (s : State) (t : Transfer) : List Byte :=
  le 2 t.id ++ le 4 t.item ++ le 4 t.shot ++ code Pict.all t.kind ++ le 1 t.priority ++ code TransferState.all t.state
    ++ le 4 t.segments ++ le 4 t.offered ++ le 4 t.acked ++ le 4 t.next ++ le 4 t.mark ++ le 1 t.credit
    ++ le 1 (s.effectiveCredit t) ++ opt s.momentBytes t.ackDue ++ le 4 t.offers

/-- TETHER_LINK (R179). -/
def State.tetherLinkPart (s : State) : List Byte :=
  let t := s.tet
  code LinkState.all t.state ++ flag t.carrier ++ flag t.heard ++ opt (le 2) t.lastBeacon
    ++ opt (code StationStatus.all) t.status ++ opt (le 8) t.beaconTime ++ le 2 t.tec ++ le 1 t.recErrors ++ le 1 t.rejoin
    ++ flag s.linkFree ++ opt (fun _ : Unit => setOf FreeBar.all s.linkBar) (if s.linkFree then none else some ())
    ++ opt s.transferBytes t.transfer ++ le 2 t.nextId ++ s.settings.tether.linkBytes

/-- An item's deadline has expired and the item stands: a KEEP item expires once, and an item whose policy a merge has
made DROP since is still to expire (R183, R190; log entry 62). -/
def Item.expired (x : Item) : Bool := x.overdue && x.policy == .keep

/-- The earlier of two items by deadline; of two that share it, the one made first (log entry 56). -/
def earlierItem (best : Option (Nat × Nat)) (x : Item) : Option (Nat × Nat) :=
  match x.deadline, best with
  | none, _ => best
  | some d, none => if x.expired then none else some (x.number, d)
  | some d, some b => if !x.expired && d < b.2 then some (x.number, d) else some b

/-- The item with the earliest deadline not yet expired (R202). -/
def Tet.earliest (t : Tet) : Option (Nat × Nat) := t.items.foldl earlierItem none

/-- TETHER_QUEUE; the two send rules are a list, without their index (R202; log entry 58). -/
def State.tetherQueuePart (s : State) : List Byte :=
  let t := s.tet
  le 1 t.items.length ++ t.stateCounts ++ opt (le 4) ((t.items.find? (·.state == .sending)).map (·.number))
    ++ opt (fun p : Nat × Nat => le 4 p.1 ++ le 8 p.2) t.earliest ++ le 1 t.inbox.length
    ++ opt (le 2) (t.inbox.head?.map (·.id)) ++ opt (le 8) (t.inbox.head?.map (·.time)) ++ le 4 t.nextItem
    ++ le 4 t.delivered ++ le 4 t.declined ++ le 4 t.expired ++ le 4 t.queueFull
    ++ listOf 1 SendRule.bytes [s.settings.rule0, s.settings.rule1] ++ s.settings.tether.queueBytes

/-- A part of the status reply (R230). -/
def State.part (s : State) : StatusPart → List Byte
  | .link => s.linkPart
  | .supervisor => s.supervisorPart
  | .capture => s.capturePart
  | .measurement => s.measurementPart
  | .focus => s.focusPart
  | .development => s.developmentPart
  | .cards => s.cardsPart
  | .tetherLink => s.tetherLinkPart
  | .tetherQueue => s.tetherQueuePart

/-- The greatest body (R219, R230). -/
def maxBody : Nat := 4096

/-- The parts included: as many of those asked for, in order, as fit whole in `room` bytes (R230). -/
def State.fitting (s : State) : List StatusPart → Nat → List StatusPart
  | [], _ => []
  | p :: ps, room => if (s.part p).length ≤ room then p :: s.fitting ps (room - (s.part p).length) else []

/-- The status reply's values for the parts asked for (R230). -/
def State.statusBytes (s : State) (asked : List StatusPart) : List Byte :=
  let wanted := StatusPart.all.filter fun p => asked.isEmpty || asked.contains p
  let given := s.fitting wanted (maxBody - (3 + wanted.length))
  listOf 1 (code StatusPart.all) given ++ listOf 1 (code StatusPart.all) (wanted.drop given.length)
    ++ given.flatMap s.part

end Sys2Proof.Machine
end

