-- ==== Sys2Proof/Machine/CaptureCommands.lean ====
section
/-! DEFINITION. The host commands of CAP (R39, R43, R55, R59) and of FOC (R78, R95). -/

namespace Sys2Proof.Machine
open Sys2Proof

/-! ### SET_CAPTURE (R39 to R41) -/

/-- The highest exposure beside the other fields of the same command (R39). -/
def maxExposure (drive : DriveMode) (depth : Depth) (rate : Nat) : Nat :=
  match drive with
  | .single => 30000000
  | .burst | .precapture => frameInterval rate - depth.readout

end Sys2Proof.Machine

namespace Sys2Proof
open Machine

/-- The values SET_CAPTURE uses (R39, R40). -/
def CaptureArgs.used (a : CaptureArgs) (depth : Depth) (drive : DriveMode) (trigger : Bool) : CaptureSettings :=
  let rate := min depth.maxRate (clamp 1 40 a.rate)
  { exposure := min (maxExposure drive depth rate) (clamp 32 30000000 a.exposure), gain := clamp 0 15 a.gain, depth := depth,
    crop := Crop.clamped ⟨a.left, a.top, a.width, a.height⟩, drive := drive, rate := rate,
    ringDepth := clamp 1 8 a.ringDepth, debounce := clamp 1 50000 a.debounce, trigger := trigger,
    step := clamp 1 256 a.step }

/-- The fields as sent, for the comparison that gives OK_CLAMPED. -/
def CaptureArgs.sent (a : CaptureArgs) (depth : Depth) (drive : DriveMode) (trigger : Bool) : CaptureSettings :=
  { exposure := a.exposure, gain := a.gain, depth := depth, crop := ⟨a.left, a.top, a.width, a.height⟩, drive := drive,
    rate := a.rate, ringDepth := a.ringDepth, debounce := a.debounce, trigger := trigger, step := a.step }

end Sys2Proof

namespace Sys2Proof.Machine
open Sys2Proof

/-- The values used, in the order of R39. -/
def CaptureSettings.bytes (c : CaptureSettings) : List Byte :=
  le 4 c.exposure ++ le 1 c.gain ++ code Depth.all c.depth ++ c.crop.bytes ++ code DriveMode.all c.drive ++ le 1 c.rate
    ++ le 1 c.ringDepth ++ le 2 c.debounce ++ code offOn c.trigger ++ le 2 c.step

/-- The new capture settings are in force (R41, R44, R46). -/
def State.useCapture (s : State) (c : CaptureSettings) : State :=
  let s1 := s.setSettings { s.settings with capture := c }
  (if c.trigger then s1 else s1.dropTrigger).driveReact

/-- SET_CAPTURE's answer (R39). -/
def State.setCapture (s : State) (a : CaptureArgs) : Answer :=
  match a.depth, a.drive, a.trigger with
  | some depth, some drive, some trigger =>
    let u := a.used depth drive trigger
    { state := s.useCapture u, status := .clamped (u != a.sent depth drive trigger), rest := u.bytes }
  | _, _, _ => { state := s, status := .badValue }

/-- SET_CAPTURE (R39). -/
def execSetCapture (tag : Nat) (args : CaptureArgs) (s : State) : Host.Outcome State Fault Refusal :=
  .next (s.take 0x20 tag true fun x => x.setCapture args)

/-! ### SET_SYNC (R59) -/

end Sys2Proof.Machine

namespace Sys2Proof
open Machine

/-- The values SET_SYNC uses (R59). -/
def SyncArgs.used (a : SyncArgs) : SyncSettings :=
  { period := clamp 1 16 a.period, mask := a.mask, delay := min 100000 a.delay, duration := clamp 1 100000 a.duration,
    wait := min 1000 a.wait }

/-- The fields as sent. -/
def SyncArgs.sent (a : SyncArgs) : SyncSettings :=
  { period := a.period, mask := a.mask, delay := a.delay, duration := a.duration, wait := a.wait }

end Sys2Proof

namespace Sys2Proof.Machine
open Sys2Proof

/-- The values used, in the order of R59. -/
def SyncSettings.bytes (g : SyncSettings) : List Byte :=
  le 1 g.period ++ le 2 g.mask.toNat ++ le 4 g.delay ++ le 4 g.duration ++ le 2 g.wait

/-- SET_SYNC's answer (R59). -/
def State.setSync (s : State) (a : SyncArgs) : Answer :=
  { state := s.setSettings { s.settings with sync := a.used }, status := .clamped (a.used != a.sent), rest := a.used.bytes }

/-- SET_SYNC (R59). -/
def execSetSync (tag : Nat) (args : SyncArgs) (s : State) : Host.Outcome State Fault Refusal :=
  .next (s.take 0x21 tag true fun x => x.setSync args)

/-! ### RELEASE (R43) -/

end Sys2Proof.Machine

namespace Sys2Proof
open Machine

/-- The host's part a RELEASE action sets (R43). -/
def ReleaseAction.part : ReleaseAction → HostRelease
  | .half => .half
  | .full => .full
  | .stop => .none

/-- RELEASE HALF and FULL are release activity (R45). -/
def ReleaseAction.activity : ReleaseAction → Bool
  | .half | .full => true
  | .stop => false

end Sys2Proof

namespace Sys2Proof.Machine
open Sys2Proof

/-- RELEASE's answer (R43). -/
def State.release (s : State) (action : Option ReleaseAction) : Answer :=
  match action with
  | none => { state := s, status := .badValue }
  | some a => { state := (s.setCap { s.cap with host := a.part }).pressed a.activity, status := .ok }

/-- RELEASE (R43). -/
def execRelease (tag : Nat) (action : Option ReleaseAction) (s : State) : Host.Outcome State Fault Refusal :=
  .next (s.take 0x22 tag true fun x => x.release action)

/-! ### SET_SHOT_BASE (R7, R55) -/

/-- The highest shot number of the card index (R7). -/
def Sbm.highestIndexed (b : Sbm) : Nat := (b.cardIndex.map (·.shot)).foldl max 0

/-- The shot number SET_SHOT_BASE uses (R7). -/
def Sbm.baseFor (b : Sbm) (number : Nat) : Nat := max (clamp 1 4294967295 number) (b.highestIndexed + 1)

/-- SET_SHOT_BASE's answer (R55). -/
def State.setShotBase (s : State) (number : Nat) : Answer :=
  if s.sbm.shots.any Option.isSome || s.sbm.highestIndexed == 4294967295 then { state := s, status := .state }
  else
    let n := s.sbm.baseFor number
    { state := (s.setSbm { s.sbm with nextNumber := some n }).notify .evaluate, status := .clamped (n != number),
      rest := le 4 n }

/-- SET_SHOT_BASE (R55). -/
def execSetShotBase (tag number : Nat) (s : State) : Host.Outcome State Fault Refusal :=
  .next (s.take 0x23 tag true fun x => x.setShotBase number)

/-! ### SET_AF (R78 to R80) -/

/-- The AF area used (R79). -/
def Area.clamped (a : Area) : Area :=
  let left := min 14 a.left
  let top := min 9 a.top
  { left := left, top := top, width := clamp 1 (15 - left) a.width, height := clamp 1 (10 - top) a.height }

end Sys2Proof.Machine

namespace Sys2Proof
open Machine

/-- The values SET_AF uses (R78). -/
def AfArgs.used (a : AfArgs) (mode : AfMode) : AfSettings :=
  { mode := mode, area := Area.clamped ⟨a.left, a.top, a.width, a.height⟩, minConf := clamp 1 255 a.minConf,
    tolerance := clamp 1 64 a.tolerance, focusWait := min 1000 a.focusWait, searchStep := clamp 1 4000 a.searchStep }

/-- The fields as sent. -/
def AfArgs.sent (a : AfArgs) (mode : AfMode) : AfSettings :=
  { mode := mode, area := ⟨a.left, a.top, a.width, a.height⟩, minConf := a.minConf, tolerance := a.tolerance,
    focusWait := a.focusWait, searchStep := a.searchStep }

end Sys2Proof

namespace Sys2Proof.Machine
open Sys2Proof

/-- The values used, in the order of R78. -/
def AfSettings.bytes (a : AfSettings) : List Byte := a.areaBytes ++ le 2 a.focusWait ++ le 2 a.searchStep

/-- SET_AF's answer (R78). -/
def State.setAf (s : State) (a : AfArgs) : Answer :=
  match a.mode with
  | none => { state := s, status := .badValue }
  | some mode =>
    let u := a.used mode
    { state := (s.setSettings { s.settings with af := u }).afChanged s.settings.af, status := .clamped (u != a.sent mode),
      rest := u.bytes }

/-- SET_AF (R78). -/
def execSetAf (tag : Nat) (args : AfArgs) (s : State) : Host.Outcome State Fault Refusal :=
  .next (s.take 0x28 tag true fun x => x.setAf args)

/-! ### SET_LENS (R95) -/

end Sys2Proof.Machine

namespace Sys2Proof
open Machine

/-- The lens record and position SET_LENS uses (R95). -/
def LensArgs.used (a : LensArgs) : Lens × Nat :=
  let near := min 65534 a.near
  let far := clamp (near + 1) 65535 a.far
  ({ near := near, far := far, gain := clamp 1 65535 a.gain, maxPredict := min 10000 a.maxPredict },
   clamp near far a.position)

/-- The fields as sent. -/
def LensArgs.sent (a : LensArgs) : Lens × Nat :=
  ({ near := a.near, far := a.far, gain := a.gain, maxPredict := a.maxPredict }, a.position)

end Sys2Proof

namespace Sys2Proof.Machine
open Sys2Proof

/-- The values SET_LENS used: the two limits, the gain, max_predict and the position are given for a present lens alone,
so each is an optional field of its own (R95, R224; log entries 38 and 39). -/
def lensReply (u : Option (Lens × Nat)) : List Byte :=
  opt (le 2) (u.map (·.1.near)) ++ opt (le 2) (u.map (·.1.far)) ++ opt (le 2) (u.map (·.1.gain))
    ++ opt (le 2) (u.map (·.1.maxPredict)) ++ opt (le 2) (u.map (·.2))

/-- SET_LENS's answer; a presence flag outside its set is judged before a move outstanding (R95; log entry 51). -/
def State.setLens (s : State) (a : LensArgs) : Answer :=
  match a.present with
  | none => { state := s, status := .badValue }
  | some present =>
    if s.foc.line.isSome then { state := s, status := .state }
    else if present then
      { state := s.fitLens (some a.used.1) (some a.used.2), status := .clamped (a.used != a.sent),
        rest := lensReply (some a.used) }
    else { state := s.fitLens none none, status := .ok, rest := lensReply none }

/-- SET_LENS (R95). -/
def execSetLens (tag : Nat) (args : LensArgs) (s : State) : Host.Outcome State Fault Refusal :=
  .next (s.take 0x29 tag true fun x => x.setLens args)

end Sys2Proof.Machine
end

