-- ==== Sys2Proof/Machine/LinkCommands.lean ====
section
/-! DEFINITION. The host commands of the command link (R227 to R231) and of the Supervisor (R204, R208, R211, R217). -/

namespace Sys2Proof.Machine
open Sys2Proof

/-! ### IDENTIFY, GET_STATUS (R229, R230) -/

/-- A text: a list of ASCII bytes (R224). -/
def text (codes : List Nat) : List Byte := listOf 1 (le 1) codes

/-- "Merosta" (R229). -/
def vendorName : List Nat := [0x4D, 0x65, 0x72, 0x6F, 0x73, 0x74, 0x61]

/-- "ZP-614" (R229). -/
def partName : List Nat := [0x5A, 0x50, 0x2D, 0x36, 0x31, 0x34]

/-- IDENTIFY's reply; the revision, the protocol version and a text's count take 1 byte each (R229; log entry 10). -/
def State.identity (s : State) : List Byte :=
  text vendorName ++ text partName ++ le 1 1 ++ le 1 1 ++ le 2 maxBody ++ le 1 Config.replyQueue ++ le 1 Config.reportQueue
    ++ code ResetCause.all s.sup.cause ++ flag s.sup.defaulted ++ le 8 s.sup.timeBase ++ addr s.settings.tether.part

/-- IDENTIFY (R229). -/
def execIdentify (tag : Nat) (s : State) : Host.Outcome State Fault Refusal :=
  .next (s.take 0x01 tag false fun x => { state := x, status := .ok, rest := x.identity })

/-- GET_STATUS's answer (R230). -/
def State.getStatus (s : State) (parts : List (Option StatusPart)) : Answer :=
  if parts.any Option.isNone then { state := s, status := .badValue }
  else { state := s, status := .ok, rest := s.statusBytes (parts.filterMap id) }

/-- GET_STATUS (R230). -/
def execGetStatus (tag : Nat) (parts : List (Option StatusPart)) (s : State) : Host.Outcome State Fault Refusal :=
  .next (s.takeSized 0x02 tag false (parts.length ≤ 9) fun x => x.getStatus parts)

/-! ### READ_REPORTS, SET_ROUTES (R227, R228) -/

end Sys2Proof.Machine

namespace Sys2Proof
open Machine

/-- A selector names a line (R227). -/
def LineSel.names : LineSel → Line → Bool
  | .any, _ => true
  | .line0, l => l == .line0
  | .line1, l => l == .line1

end Sys2Proof

namespace Sys2Proof.Machine
open Sys2Proof

/-- The records taken, and those left in their order: at most `count` of the selector's lines, within `room` bytes
(R227). -/
def pickRecords (sel : LineSel) : List Record → Nat → Nat → List Record × List Record
  | [], _, _ => ([], [])
  | r :: rs, count, room =>
    if sel.names r.line then
      if count = 0 || room < r.bytes.length then ([], r :: rs)
      else
        let p := pickRecords sel rs (count - 1) (room - r.bytes.length)
        (r :: p.1, p.2)
    else
      let p := pickRecords sel rs count room
      (p.1, r :: p.2)

/-- READ_REPORTS's answer (R227): the status, the lost count, the two numbers and the records share the body. -/
def State.readReports (s : State) (count : Nat) (sel : Option LineSel) : Answer :=
  match sel with
  | none => { state := s, status := .badValue }
  | some l =>
    let n := clamp 1 64 count
    let p := pickRecords l s.link.reports n (maxBody - 5)
    { state := s.setLink { s.link with reports := p.2, lost := 0 }, status := .clamped (n != count),
      rest := le 2 s.link.lost ++ le 1 p.1.length ++ le 1 p.2.length ++ p.1.flatMap Record.bytes }

/-- READ_REPORTS (R227). -/
def execReadReports (tag count : Nat) (sel : Option LineSel) (s : State) : Host.Outcome State Fault Refusal :=
  .next (s.take 0x03 tag true fun x => x.readReports count sel)

/-- One pair of SET_ROUTES (R228). -/
def setRoute (table : List Route) (p : Option ReportKind × Option Route) : List Route :=
  match p with
  | (some k, some r) => table.set (k.number - 1) r
  | _ => table

/-- A pair outside its sets (R228). -/
def badPair (p : Option ReportKind × Option Route) : Bool := p.1.isNone || p.2.isNone

/-- SET_ROUTES's answer (R228). -/
def State.setRoutes (s : State) (pairs : List (Option ReportKind × Option Route)) : Answer :=
  if pairs.any badPair then { state := s, status := .badValue }
  else
    let s1 := s.setSettings { s.settings with routes := pairs.foldl setRoute s.settings.routes }
    { state := s1, status := .ok, rest := s1.settings.routeBytes }

/-- SET_ROUTES (R228). -/
def execSetRoutes (tag : Nat) (pairs : List (Option ReportKind × Option Route)) (s : State) : Host.Outcome State Fault Refusal :=
  .next (s.takeSized 0x04 tag true (1 ≤ pairs.length && pairs.length ≤ 28) fun x => x.setRoutes pairs)

/-! ### RESET (R231) -/

/-- RESET's answer: the reset is pending (R231). -/
def State.askReset (s : State) : Answer :=
  { state := s.setLink { s.link with resetDue := some (s.sup.elapsed + 100000) }, status := .accepted }

/-- RESET (R231). -/
def execReset (tag : Nat) (s : State) : Host.Outcome State Fault Refusal :=
  .next (s.take 0x05 tag true State.askReset)

/-! ### SET_TIME, SET_POWER, SET_THRESHOLDS, SAVE_SETTINGS -/

/-- SET_TIME's answer (R204). -/
def State.setTime (s : State) (t : Nat) : Answer :=
  if s.heldTimes.any fun h => t < h then { state := s, status := .state }
  else { state := s.setTimeBase t, status := .ok, rest := le 8 s.sup.timeBase ++ le 8 t }

/-- SET_TIME (R204). -/
def execSetTime (tag time : Nat) (s : State) : Host.Outcome State Fault Refusal :=
  .next (s.take 0x10 tag true fun x => x.setTime time)

/-- SET_POWER's answer (R211). -/
def State.setPower (s : State) (target : Option PowerState) : Answer :=
  match target with
  | none => { state := s, status := .badValue }
  | some p => s.askPower p

/-- SET_POWER (R211, R212). -/
def execSetPower (tag : Nat) (target : Option PowerState) (s : State) : Host.Outcome State Fault Refusal :=
  .next (s.take 0x11 tag false fun x => x.setPower target)

/-- SET_THRESHOLDS's answer (R208). -/
def State.setThresholds (s : State) (low critical : Nat) : Answer :=
  let l := clamp 6000 7600 low
  let c := clamp 5900 (l - 100) critical
  { state := (s.setSettings { s.settings with low := l, critical := c }).judgeLevel,
    status := .clamped (l != low || c != critical), rest := le 2 l ++ le 2 c }

/-- SET_THRESHOLDS (R208). -/
def execSetThresholds (tag low critical : Nat) (s : State) : Host.Outcome State Fault Refusal :=
  .next (s.take 0x12 tag true fun x => x.setThresholds low critical)

/-- SAVE_SETTINGS's answer (R217). -/
def State.saveSettings (s : State) : Answer :=
  if s.sup.store.mark = .writing then { state := s, status := .busy } else { state := s.startWrite, status := .ok }

/-- SAVE_SETTINGS (R217). -/
def execSaveSettings (tag : Nat) (s : State) : Host.Outcome State Fault Refusal :=
  .next (s.take 0x13 tag true State.saveSettings)

end Sys2Proof.Machine
end

