-- ==== Sys2Proof/Machine/PictureCommands.lean ====
section
/-! DEFINITION. The host commands of DEV (R122, R123) and of CRD (R135, R143, R148). -/

namespace Sys2Proof.Machine
open Sys2Proof

/-! ### SET_LOOK (R121, R122) -/

/-- The number of look slots (R121). -/
def lookSlots : Nat := 8

/-- The number of curve slots (R122). -/
def curveSlots : Nat := 4

/-- A gain used (R122). -/
def gainUsed (g : Nat) : Nat := clamp 512 8191 g

/-- The gains SET_LOOK uses (R122). -/
def Gains.used (g : Gains) : Gains := { r := gainUsed g.r, g := gainUsed g.g, b := gainUsed g.b }

/-- A look written into a slot (R122). -/
def Settings.writeLook (g : Settings) (slot : Nat) (l : Look) (select : Bool) : Settings :=
  { g with looks := g.looks.set slot l, currentLook := if select then slot else g.currentLook }

/-- SET_LOOK with its enumerations inside their sets (R122). -/
def State.writeLook (s : State) (slot : Nat) (l : Look) (select : Bool) : Answer :=
  let used := { l with gains := l.gains.used }
  let s1 := s.setSettings (s.settings.writeLook slot used select)
  { state := s1, status := .clamped (l.gains != l.gains.used),
    rest := le 1 slot ++ used.bytes ++ le 1 s1.settings.currentLook }

/-- SET_LOOK's answer (R122). -/
def State.setLook (s : State) (slot : Nat) (a : LookArgs) : Answer :=
  match a.wb, a.scale, a.auto, a.select with
  | some wb, some scale, some auto, some select =>
    if lookSlots ≤ slot || curveSlots ≤ a.curve then s.refuse .badValue
    else s.writeLook slot { wb := wb, gains := ⟨a.gR, a.gG, a.gB⟩, curve := a.curve, scale := scale, auto := auto } select
  | _, _, _, _ => s.refuse .badValue

/-- SET_LOOK (R121, R122). -/
def execSetLook (tag slot : Nat) (args : LookArgs) (s : State) : Host.Outcome State Fault Refusal :=
  .next (s.take 0x40 tag true fun x => x.setLook slot args)

/-! ### SET_CURVE (R122) -/

/-- The points SET_CURVE uses (R122). -/
def curveUsed (points : List Nat) : List Nat := points.map (min 255)

/-- SET_CURVE's answer (R122). -/
def State.setCurve (s : State) (slot : Nat) (points : List Nat) : Answer :=
  if curveSlots ≤ slot then s.refuse .badValue
  else
    { state := s.setSettings { s.settings with curves := s.settings.curves.set slot (curveUsed points) },
      status := .clamped (curveUsed points != points), rest := le 1 slot ++ listOf 1 (le 1) (curveUsed points) }

/-- SET_CURVE (R122). -/
def execSetCurve (tag slot : Nat) (points : List Nat) (s : State) : Host.Outcome State Fault Refusal :=
  .next (s.takeSized 0x41 tag true (points.length == 17) fun x => x.setCurve slot points)

/-! ### DEVELOP (R123) -/

/-- The job look of a look slot as it stands (R123). -/
def Settings.slotLook (g : Settings) (slot : Nat) : JobLook :=
  let l := g.looks.getD slot Look.factoryFixed
  { index := slot, wb := l.wb, gains := l.gains }

/-- The look of a queued RENDITION job replaced; it keeps its place, and the head of a WAIT_SPACE engine is asked for
again at once (R123). -/
def State.relookJob (s : State) (n : Nat) (look : JobLook) : State :=
  (s.setDev { s.dev with queue := s.dev.queue.map fun j =>
                           if Job.is n .rendition j then { j with look := look } else j }).lookIf (s.waitsFor n)

/-- DEVELOP's cases after the entry is found (R123). -/
def State.developShot (s : State) (i n : Nat) (sh : Shot) (look : JobLook) : Answer :=
  if sh.state != .buffered || sh.deleting || sh.reinstated then s.refuse .state
  else if sh.rendition.isSome then s.refuse .state
  else if sh.raw.isNone && !s.rawRecalled n then s.refuse .noRaw
  else if s.dev.queue.any (Job.is n .rendition) then { state := s.relookJob n look, status := .okMerged }
  else { state := (s.requestJob i .rendition look).1, status := .ok }

/-- DEVELOP's answer (R123). -/
def State.develop (s : State) (n slot : Nat) : Answer :=
  if lookSlots ≤ slot then s.refuse .badValue
  else match s.committed n with
    | none => s.refuse .noShot
    | some e => s.developShot e.1 n e.2 (s.settings.slotLook slot)

/-- DEVELOP (R123). -/
def execDevelop (tag shot look : Nat) (s : State) : Host.Outcome State Fault Refusal :=
  .next (s.take 0x42 tag true fun x => x.develop shot look)

/-! ### SET_CARD_MODE (R143) -/

/-- SET_CARD_MODE's answer (R143, R146). -/
def State.setCardMode (s : State) (mode : Option CardMode) (content : Option CardContent) : Answer :=
  match mode, content with
  | some m, some c => { state := (s.setSettings { s.settings with cardMode := m, cardContent := c }).sweep, status := .ok }
  | _, _ => s.refuse .badValue

/-- SET_CARD_MODE (R143). -/
def execSetCardMode (tag : Nat) (mode : Option CardMode) (content : Option CardContent) (s : State) :
    Host.Outcome State Fault Refusal :=
  .next (s.take 0x48 tag true fun x => x.setCardMode mode content)

/-! ### GRANT_WINDOW (R135) -/

/-- The window GRANT_WINDOW uses on a card of a capacity (R135). -/
def Window.used (capacity : Nat) (w : Window) : Window :=
  let start := clamp 0 (capacity - 1) w.start
  { start := start, length := clamp 1 (capacity - start) w.length }

/-- GRANT_WINDOW on a slot of the set (R135). -/
def State.grantOn (s : State) (sl : Slot) (mount : Nat) (w : Window) : Answer :=
  if !(s.slot sl).state.writable then s.refuse .state
  else if (s.slot sl).mount != some mount then s.refuse .state
  else
    let u := w.used ((s.slot sl).capacity.getD 0)
    { state := s.grant sl u, status := .clamped (u != w), rest := u.bytes }

/-- GRANT_WINDOW's answer (R135). -/
def State.grantWindow (s : State) (slot : Option Slot) (mount start length : Nat) : Answer :=
  match slot with
  | none => s.refuse .badValue
  | some sl => s.grantOn sl mount ⟨start, length⟩

/-- GRANT_WINDOW (R135). -/
def execGrantWindow (tag : Nat) (slot : Option Slot) (mount start length : Nat) (s : State) :
    Host.Outcome State Fault Refusal :=
  .next (s.take 0x49 tag true fun x => x.grantWindow slot mount start length)

/-! ### RECALL (R147, R148) -/

/-- The slot and the mount number of a recall (R148). -/
def State.recallPlace (s : State) (sl : Slot) (n : Nat) (k : Pict) : List Byte :=
  code Slot.all sl ++ le 2 ((((s.slot sl).recalls.find? (Recall.is n k)).map (·.mount)).getD 0)

/-- RECALL's reply to an outcome (R148). -/
def RecallOutcome.answer (s : State) (n : Nat) (k : Pict) : RecallOutcome → Answer
  | .unfit | .present | .notMounted => s.refuse .state
  | .merged sl => { state := s, status := .okMerged, rest := s.recallPlace sl n k }
  | .notFound => s.refuse .noShot
  | .full => s.refuse .full
  | .queued sl => { state := s, status := .ok, rest := s.recallPlace sl n k }

/-- RECALL's answer (R148). -/
def State.askRecall (s : State) (n : Nat) (kind : Option Pict) : Answer :=
  match kind with
  | none | some .thumb => s.refuse .badValue
  | some k => (s.requestRecall n k true none).2.answer (s.requestRecall n k true none).1 n k

/-- RECALL (R148). -/
def execRecall (tag shot : Nat) (kind : Option Pict) (s : State) : Host.Outcome State Fault Refusal :=
  .next (s.take 0x4A tag true fun x => x.askRecall shot kind)

end Sys2Proof.Machine
end

