-- ==== Sys2Proof/Machine/ShotCommands.lean ====
section
/-! DEFINITION. The host commands of SBM (Section 1.6): LIST_SHOTS, READ_SHOT, READ_THUMB, TAG_SHOT, HOLD, UNHOLD,
DELETE_SHOT and READ_CARD_INDEX. -/

namespace Sys2Proof.Machine
open Sys2Proof

/-! ### LIST_SHOTS, READ_SHOT (R32, R33) -/

/-- The committed entry of a number with its index, as a summary. -/
def State.summary (s : State) (n : Nat) : Option (List Byte) :=
  (s.committed n).map fun e => summaryBytes e.1 e.2

/-- The shot numbers of the committed entries in ascending order. -/
def State.committedNumbers (s : State) : List Nat :=
  ((s.sbm.shots.filter fun e => e.any fun sh => sh.state != .ring).filterMap fun e => e.bind (·.number)).foldl
    (fun l n => insertOnce n l) []

/-- The number of RING entries (R32). -/
def Sbm.ringEntries (b : Sbm) : Nat := b.shots.countP fun e => e.any fun sh => sh.state == .ring

/-- LIST_SHOTS's answer (R32). -/
def State.listShots (s : State) (start count : Nat) : Answer :=
  let n := clamp 1 32 count
  let all := s.committedNumbers.filter fun m => start ≤ m
  { state := s, status := .clamped (n != count),
    rest := listOf 1 id ((all.take n).filterMap s.summary) ++ flag (n < all.length) ++ le 2 s.sbm.freeCount
              ++ le 1 s.sbm.freeEntries ++ le 1 s.sbm.ringEntries }

/-- LIST_SHOTS (R32). -/
def execListShots (tag start count : Nat) (s : State) : Host.Outcome State Fault Refusal :=
  .next (s.take 0x30 tag true fun x => x.listShots start count)

/-- READ_SHOT's answer (R33). -/
def State.readShot (s : State) (n : Nat) : Answer :=
  match s.committed n with
  | none => s.refuse .noShot
  | some e => { state := s, status := .ok, rest := recordBytes e.1 e.2 }

/-- READ_SHOT (R33). -/
def execReadShot (tag shot : Nat) (s : State) : Host.Outcome State Fault Refusal :=
  .next (s.take 0x31 tag true fun x => x.readShot shot)

/-! ### READ_THUMB (R34) -/

/-- The run of a present thumbnail; the width and height take 2 bytes each (R34; log entry 10). -/
def Thumb.run (t : Thumb) (offset length : Nat) : List Byte :=
  le 2 t.width ++ le 2 t.height ++ le 4 t.size ++ le 4 offset
    ++ listOf 2 (fun b => [b]) (t.data.bytes offset (min (clamp 1 4000 length) (t.size - offset)))

/-- One of the two clamps of R34 replaced the length. -/
def Thumb.clamps (t : Thumb) (offset length : Nat) : Bool :=
  clamp 1 4000 length != length || t.size - offset < clamp 1 4000 length

/-- READ_THUMB's answer; a shot with deletion pending is refused (R30, R34). -/
def State.readThumb (s : State) (n offset length : Nat) : Answer :=
  match s.committed n with
  | none => s.refuse .noShot
  | some e =>
    if e.2.deleting then s.refuse .state
    else match e.2.thumb with
    | none => s.refuse .state
    | some t => { state := s, status := .clamped (t.clamps offset length), rest := t.run offset length }

/-- READ_THUMB (R34). -/
def execReadThumb (tag shot offset length : Nat) (s : State) : Host.Outcome State Fault Refusal :=
  .next (s.take 0x32 tag true fun x => x.readThumb shot offset length)

/-! ### TAG_SHOT (R28) -/

end Sys2Proof.Machine

namespace Sys2Proof
open Machine

/-- A flag after a tag action (R28). -/
def TagAction.apply : TagAction → Bool → Bool
  | .keep, v => v
  | .set, _ => true
  | .clear, _ => false

end Sys2Proof

namespace Sys2Proof.Machine
open Sys2Proof

/-- The rating after TAG_SHOT (R28). -/
def taggedRating (rating : Option Nat) (old : Nat) : Nat := (rating.map fun r => min 5 r).getD old

/-- The record after TAG_SHOT (R28). -/
def Shot.tagged (sh : Shot) (urgent picked : TagAction) (rating : Option Nat) : Shot :=
  { sh with urgent := urgent.apply sh.urgent, picked := picked.apply sh.picked, rating := taggedRating rating sh.rating }

/-- A tag that went from clear to set has its send rules evaluated (R193). -/
def newlySet (old new : Shot) (m : RuleMatch) : Bool :=
  (m == .picked && new.picked && !old.picked) || (m == .urgent && new.urgent && !old.urgent)

/-- DEV and TET are told of the changed flags of a BUFFERED shot (R28, R109, R189, R193). -/
def State.tellTags (s : State) (i n : Nat) (old new : Shot) : State :=
  let s1 := if old.urgent = new.urgent then s else s.moveUrgent n new.urgent
  let s2 := s1.evaluateRules i (newlySet old new)
  if new.urgent && !old.urgent then s2.raiseItems n else s2

/-- The tags and the rating are applied to the record (R28). -/
def State.applyTags (s : State) (i n : Nat) (sh : Shot) (urgent picked : TagAction) (rating : Option Nat) : State :=
  let new := sh.tagged urgent picked rating
  let s1 := s.mapShot i fun _ => new
  if sh.state = .buffered then s1.tellTags i n sh new else s1

/-- The rating used, given when it was clamped (R28, R223, R224; log entry 38). -/
def ratingUsed (rating : Option Nat) : List Byte := opt (le 1) ((rating.filter (5 < ·)).map fun _ => 5)

/-- TAG_SHOT's answer; a value outside its set is judged before the shot (R28; log entry 51). -/
def State.tagShot (s : State) (n : Nat) (urgent picked : Option TagAction) (rating : Option (Option Nat)) : Answer :=
  match urgent, picked, rating with
  | some u, some p, some r =>
    match s.committed n with
    | none => s.refuse .noShot
    | some e =>
      if e.2.deleting then s.refuse .state
      else { state := s.applyTags e.1 n e.2 u p r, status := .clamped (r.any fun v => 5 < v), rest := ratingUsed r }
  | _, _, _ => s.refuse .badValue

/-- TAG_SHOT (R28). -/
def execTagShot (tag shot : Nat) (urgent picked : Option TagAction) (rating : Option (Option Nat)) (s : State) :
    Host.Outcome State Fault Refusal :=
  .next (s.take 0x33 tag true fun x => x.tagShot shot urgent picked rating)

/-! ### HOLD, UNHOLD (R29) -/

/-- The status that refuses a missing object (R29). -/
def missingObject : Pict → Status
  | .raw => .noRaw
  | .rendition => .state
  | .thumb => .badValue

/-- HOLD and UNHOLD judged: the entry's index and the kind, or the refusal; the kind is judged before the shot, and the
deletion before the object (R29; log entry 51). -/
def State.judgeHold (s : State) (n : Nat) (kind : Option Pict) : Except Status (Nat × Pict) :=
  match kind with
  | none | some .thumb => .error .badValue
  | some k =>
    match s.committed n with
    | none => .error .noShot
    | some e =>
      if e.2.deleting then .error .state
      else if (e.2.obj k).isNone then .error (missingObject k)
      else .ok (e.1, k)

/-- HOLD's answer (R29). -/
def State.hold (s : State) (n : Nat) (kind : Option Pict) : Answer :=
  match s.judgeHold n kind with
  | .error e => s.refuse e
  | .ok p => { state := s.place p.1 p.2 .host, status := .ok }

/-- HOLD (R29). -/
def execHold (tag shot : Nat) (kind : Option Pict) (s : State) : Host.Outcome State Fault Refusal :=
  .next (s.take 0x34 tag true fun x => x.hold shot kind)

/-- UNHOLD's answer (R29). -/
def State.unhold (s : State) (n : Nat) (kind : Option Pict) : Answer :=
  match s.judgeHold n kind with
  | .error e => s.refuse e
  | .ok p => { state := s.releaseHold p.1 p.2 .host, status := .ok }

/-- UNHOLD (R29). -/
def execUnhold (tag shot : Nat) (kind : Option Pict) (s : State) : Host.Outcome State Fault Refusal :=
  .next (s.take 0x35 tag true fun x => x.unhold shot kind)

/-! ### DELETE_SHOT (R30) -/

/-- DELETE_SHOT's answer (R30). -/
def State.askDelete (s : State) (n : Nat) : Answer :=
  match s.committed n with
  | none => s.refuse .noShot
  | some e =>
    if e.2.state != .buffered then s.refuse .state
    else if e.2.deleting then { state := s, status := .ok }
    else { state := s.deleteShot e.1 n, status := .ok }

/-- DELETE_SHOT (R30, R31). -/
def execDeleteShot (tag shot : Nat) (s : State) : Host.Outcome State Fault Refusal :=
  .next (s.take 0x36 tag true fun x => x.askDelete shot)

/-! ### READ_CARD_INDEX (R35) -/

/-- READ_CARD_INDEX's answer (R35). -/
def State.readCardIndex (s : State) (position count : Nat) : Answer :=
  let n := clamp 1 32 count
  { state := s, status := .clamped (n != count),
    rest := le 2 s.sbm.cardIndex.length ++ le 4 s.sbm.addedCount
              ++ listOf 1 IndexEntry.bytes ((s.sbm.cardIndex.drop position).take n) }

/-- READ_CARD_INDEX (R35). -/
def execReadCardIndex (tag position count : Nat) (s : State) : Host.Outcome State Fault Refusal :=
  .next (s.take 0x37 tag true fun x => x.readCardIndex position count)

end Sys2Proof.Machine
end

