-- ==== Sys2Proof/Machine/TetherCommands.lean ====
section
/-! DEFINITION. The host commands of TET (R166, R176, R177, R192, R194 to R197, R201). -/

namespace Sys2Proof.Machine
open Sys2Proof

/-! ### SET_TETHER (R176, R177, R197) -/

/-- The least significant bit of an address's first byte marks a group address (R176). -/
def groupAddress (a : Addr) : Bool := a.getLsbD 40

end Sys2Proof.Machine

namespace Sys2Proof
open Machine

/-- The addresses SET_TETHER refuses (R176). -/
def TetherArgs.badAddress (a : TetherArgs) : Bool := groupAddress a.station || groupAddress a.part || a.part == 0

/-- The values SET_TETHER uses, with the enumerations in their sets (R176, R197). -/
def TetherArgs.used (a : TetherArgs) (rejoin list thumb rendition raw : Bool) : TetherSettings :=
  { station := a.station, part := a.part, etherType := clamp 0x600 0xFFFF a.etherType, ackTimeout := clamp 20 2000 a.ackTimeout,
    autoRejoin := rejoin, pullList := list, pullThumb := thumb, pullRendition := rendition, pullRaw := raw,
    pullCap := min 31 a.pullCap, urgentLevel := min 31 a.urgentLevel }

/-- The fields as sent. -/
def TetherArgs.sent (a : TetherArgs) (rejoin list thumb rendition raw : Bool) : TetherSettings :=
  { station := a.station, part := a.part, etherType := a.etherType, ackTimeout := a.ackTimeout, autoRejoin := rejoin,
    pullList := list, pullThumb := thumb, pullRendition := rendition, pullRaw := raw, pullCap := a.pullCap,
    urgentLevel := a.urgentLevel }

end Sys2Proof

namespace Sys2Proof.Machine
open Sys2Proof

/-- A change of station, part or EtherType changes which frames belong to the link (R177). -/
def TetherSettings.sameLink (a b : TetherSettings) : Bool :=
  a.station == b.station && a.part == b.part && a.etherType == b.etherType

/-- A change of the station address empties the inbox (R197). -/
def State.dropInbox (s : State) (old : TetherSettings) : State :=
  if s.settings.tether.station = old.station then s else s.setTet { s.tet with inbox := [] }

/-- Auto-rejoin OFF sets the rejoin count to 0 (R177). -/
def State.stopRejoin (s : State) : State :=
  if s.settings.tether.autoRejoin then s else s.setTet { s.tet with rejoin := 0 }

/-- Every shot an item names, once each, whose URGENT flag is set. -/
def State.urgentShots (s : State) : List Nat := ((s.tet.items.map (·.shot)).eraseDups).filter s.urgentShot

/-- A raised urgent level raises the items of URGENT shots (R189, R197). A level that rises or falls changes what
RESTRICTED admits at the link's next request. -/
def State.raiseLevel (s : State) (old : TetherSettings) : State :=
  if old.urgentLevel < s.settings.tether.urgentLevel then s.urgentShots.foldl State.raiseItems s else s

/-- The new tether settings are in force (R177, R189, R197). -/
def State.useTether (s : State) (t : TetherSettings) : State :=
  let old := s.settings.tether
  let s1 := s.setSettings { s.settings with tether := t }
  (((if t.sameLink old then s1 else s1.leaveStation).dropInbox old).stopRejoin).raiseLevel old

/-- SET_TETHER's answer (R176, R197). -/
def State.setTether (s : State) (a : TetherArgs) : Answer :=
  match a.autoRejoin, a.pullList, a.pullThumb, a.pullRendition, a.pullRaw with
  | some j, some l, some t, some d, some r =>
    if a.badAddress then s.refuse .badValue
    else
      let u := a.used j l t d r
      { state := s.useTether u, status := .clamped (u != a.sent j l t d r), rest := u.linkBytes ++ u.queueBytes }
  | _, _, _, _, _ => s.refuse .badValue

/-- SET_TETHER (R176, R177, R197). -/
def execSetTether (tag : Nat) (args : TetherArgs) (s : State) : Host.Outcome State Fault Refusal :=
  .next (s.take 0x50 tag true fun x => x.setTether args)

/-! ### SET_SEND_RULE (R192) -/

/-- A deadline offset used (R192). -/
def offsetUsed (ms : Nat) : Nat := clamp 1 3600000 ms

/-- A rule with its numbers clamped (R192). -/
def SendRule.used (r : SendRule) : SendRule := { r with priority := min 31 r.priority, offset := r.offset.map offsetUsed }

/-- A send rule replaced (R192). -/
def Settings.setRule (g : Settings) (index : Nat) (r : SendRule) : Settings :=
  if index = 0 then { g with rule0 := r } else { g with rule1 := r }

/-- SET_SEND_RULE's answer (R192). -/
def State.setSendRule (s : State) (index : Nat) (a : RuleArgs) : Answer :=
  match a.matching, a.kind, a.offset, a.policy with
  | some m, some k, some o, some p =>
    if 2 ≤ index then s.refuse .badValue
    else
      let sent : SendRule := { matching := m, kind := k, priority := a.priority, offset := o, policy := p }
      { state := s.setSettings (s.settings.setRule index sent.used), status := .clamped (sent.used != sent),
        rest := le 1 index ++ sent.used.bytes }
  | _, _, _, _ => s.refuse .badValue

/-- SET_SEND_RULE (R192). -/
def execSetSendRule (tag index : Nat) (args : RuleArgs) (s : State) : Host.Outcome State Fault Refusal :=
  .next (s.take 0x51 tag true fun x => x.setSendRule index args)

/-! ### ENQUEUE, CANCEL_ITEM, READ_QUEUE (R194 to R196) -/

/-- What an accepting ENQUEUE reply gives of the item (R194). -/
def Item.brief (x : Item) : List Byte :=
  le 4 x.number ++ code ItemState.all x.state ++ le 1 x.priority ++ opt (le 8) x.deadline ++ code Policy.all x.policy

/-- The item of a shot and kind, for a reply. -/
def State.itemBrief (s : State) (n : Nat) (k : Pict) : List Byte :=
  ((s.tet.items.find? (Item.is n k)).map Item.brief).getD []

/-- ENQUEUE's reply status to an outcome (R182, R194). -/
def ItemOutcome.status (clamped : Bool) : ItemOutcome → Status
  | .ready | .waitDevelop | .waitRecall => .clamped clamped
  | .merged => .okMerged
  | .unfit | .notMounted => .state
  | .notFound => .noShot
  | .noRoom | .queueFull => .full

/-- An item was made or merged (R182). -/
def ItemOutcome.made : ItemOutcome → Bool
  | .ready | .waitDevelop | .waitRecall | .merged => true
  | .unfit | .notFound | .notMounted | .noRoom | .queueFull => false

/-- ENQUEUE's answer with its enumerations inside their sets (R194). -/
def State.enqueueItem (s : State) (n : Nat) (k : Pict) (priority : Nat) (deadline : Option Nat) (policy : Policy) : Answer :=
  let r := s.requestItem n k (min 31 priority) deadline policy .host
  { state := r.1, status := r.2.status (31 < priority), rest := if r.2.made then r.1.itemBrief n k else [] }

/-- ENQUEUE's answer (R194). -/
def State.enqueue (s : State) (n : Nat) (kind : Option Pict) (priority : Nat) (deadline : Option (Option Nat))
    (policy : Option Policy) : Answer :=
  match kind, deadline, policy with
  | some k, some d, some p => s.enqueueItem n k priority d p
  | _, _, _ => s.refuse .badValue

/-- ENQUEUE (R182 to R185, R194). -/
def execEnqueue (tag shot : Nat) (kind : Option Pict) (priority : Nat) (deadline : Option (Option Nat))
    (policy : Option Policy) (s : State) : Host.Outcome State Fault Refusal :=
  .next (s.take 0x52 tag true fun x => x.enqueue shot kind priority deadline policy)

/-- CANCEL_ITEM's answer (R195). -/
def State.cancelItem (s : State) (m : Nat) : Answer :=
  match s.tet.item m with
  | none => s.refuse .state
  | some x =>
    { state := s.removeItem x, status := .ok, rest := code ItemState.all x.state ++ opt (le 4) (s.ackedOf x) }

/-- CANCEL_ITEM (R195). -/
def execCancelItem (tag item : Nat) (s : State) : Host.Outcome State Fault Refusal :=
  .next (s.take 0x53 tag true fun x => x.cancelItem item)

/-- An item put in its place by enqueue sequence. -/
def insertBySeq (x : Item) : List Item → List Item
  | [] => [x]
  | y :: ys => if x.seq < y.seq then x :: y :: ys else y :: insertBySeq x ys

/-- Queue order: the SENDING item, the READY items in the order of R187, then the waiting items (R196). -/
def Tet.queueOrder (t : Tet) : List Item :=
  t.items.filter (·.state == .sending) ++ t.readyOrder ++ (t.items.filter Item.waiting).foldr insertBySeq []

/-- READ_QUEUE's answer (R196). -/
def State.readQueue (s : State) (position count : Nat) : Answer :=
  let n := clamp 1 32 count
  { state := s, status := .clamped (n != count),
    rest := listOf 1 Item.bytes ((s.tet.queueOrder.drop position).take n) ++ le 1 s.tet.items.length ++ s.tet.stateCounts
              ++ le 1 s.settings.tether.urgentLevel ++ le 8 s.sup.timeBase }

/-- READ_QUEUE (R196). -/
def execReadQueue (tag position count : Nat) (s : State) : Host.Outcome State Fault Refusal :=
  .next (s.take 0x54 tag true fun x => x.readQueue position count)

/-! ### ANSWER_PULL (R201) -/

/-- The outcomes of R201, in its order. -/
def ItemOutcome.all : List ItemOutcome :=
  [.ready, .waitDevelop, .waitRecall, .merged, .unfit, .notFound, .notMounted, .noRoom, .queueFull]

/-- A pull leaves the inbox (R200). -/
def State.leaveInbox (s : State) (p : Pull) : State :=
  s.setTet { s.tet with inbox := s.tet.inbox.filter fun q => q.id != p.id }

/-- The fields of an item made or merged, or of none: the number, the state, the priority, the deadline and the policy,
each an optional field of its own (R201, R224; log entry 39). -/
def itemFields (x : Option Item) : List Byte :=
  opt (le 4) (x.map (·.number)) ++ opt (code ItemState.all) (x.map (·.state)) ++ opt (le 1) (x.map (·.priority))
    ++ opt (le 8) (x.bind (·.deadline)) ++ opt (code Policy.all) (x.map (·.policy))

/-- What ANSWER_PULL gives of the outcome and of its item (R201, R224). -/
def answerFields (o : Option ItemOutcome) (x : Option Item) : List Byte := opt (code ItemOutcome.all) o ++ itemFields x

/-- ACCEPT of an object pull (R201). -/
def State.acceptObject (s : State) (p : Pull) (k : Pict) (priority : Nat) : Answer :=
  let r := s.answerObject p.id p.shot k (min 31 priority)
  { state := r.1, status := if r.2 = .merged then .okMerged else .clamped (31 < priority),
    rest := answerFields (some r.2) (if r.2.made then r.1.tet.items.find? (Item.is p.shot k) else none) }

/-- ANSWER_PULL with its pull found (R201). -/
def State.answerHeld (s : State) (p : Pull) (answer : PullAnswer) (priority : Nat) : Answer :=
  let s1 := s.leaveInbox p
  match answer, p.kind with
  | .refuse, _ => { state := s1.pushTx (.pullReply p.id .refused), status := .ok, rest := answerFields none none }
  | .accept, .list => { state := s1.pushTx (s1.listFrame p.id p.shot), status := .ok, rest := answerFields none none }
  | .accept, .pict k => s1.acceptObject p k priority

/-- ANSWER_PULL's answer; an answer outside its set is judged before the inbox (R201; log entry 51). -/
def State.answerPull (s : State) (pull : Nat) (answer : Option PullAnswer) (priority : Nat) : Answer :=
  match answer with
  | none => s.refuse .badValue
  | some a =>
    match s.tet.inbox.find? (·.id == pull) with
    | none => s.refuse .state
    | some p => s.answerHeld p a priority

/-- ANSWER_PULL (R201). -/
def execAnswerPull (tag pull : Nat) (answer : Option PullAnswer) (priority : Nat) (s : State) :
    Host.Outcome State Fault Refusal :=
  .next (s.take 0x55 tag true fun x => x.answerPull pull answer priority)

/-! ### REJOIN (R166) -/

/-- REJOIN's answer (R166). -/
def State.rejoin (s : State) : Answer :=
  { state := s.rejoinLink, status := .ok, rest := le 2 s.tet.tec ++ le 1 s.tet.recErrors }

/-- REJOIN (R166). -/
def execRejoin (tag : Nat) (s : State) : Host.Outcome State Fault Refusal :=
  .next (s.take 0x56 tag true State.rejoin)

end Sys2Proof.Machine
end

