-- ==== Sys2Proof/Machine/LinkEvents.lean ====
section
/-! DEFINITION. The events of the command link: chip select, the inbound frame assembler, a frame's completion and the
reading of a reply (R219 to R222, R231). -/

namespace Sys2Proof.Machine
open Sys2Proof

/-! ### Chip select (R219, R222) -/

/-- A link error is counted (R220). -/
def Link.fail (l : Link) (e : LinkError) : Link := { l with errors := next32 l.errors, lastError := some e }

/-- Chip select falls: the assembler hunts and the oldest reply begins to shift out (R219, R222). -/
def Link.open (l : Link) : Link := { l with assembler := .hunt, shifting := !l.replies.isEmpty }

/-- Chip select rises: a frame in FRAME is discarded as INCOMPLETE (R219, R222). -/
def Link.close (l : Link) : Link :=
  let l1 := if l.assembler = .frame then l.fail .incomplete else l
  { l1 with assembler := .closed, shifting := false }

/-- The level of chip select; in the brown-out hold only the level is seen (log entry 29). -/
def State.chipSelect (s : State) (high : Bool) : State := s.setPins { s.pins with chipSelect := high }

/-- CHIP_SELECT_FALL (R219, R222). -/
def execChipSelectFall (s : State) : Host.Outcome State Fault Refusal :=
  .next (if s.pins.chipSelect then (s.chipSelect false).event fun x => x.setLink x.link.open else s)

/-- CHIP_SELECT_RISE (R219, R220, R222). -/
def execChipSelectRise (s : State) : Host.Outcome State Fault Refusal :=
  .next (if s.pins.chipSelect then s else (s.chipSelect true).event fun x => x.setLink x.link.close)

/-! ### The assembler (R219, R220) -/

/-- A SYNC byte in HUNT begins a frame (R219). -/
def Link.sync (l : Link) : Link := if l.assembler = .hunt then { l with assembler := .frame } else l

/-- SYNC_BYTE (R219). -/
def execSyncByte (s : State) : Host.Outcome State Fault Refusal := .next (s.event fun x => x.setLink x.link.sync)

/-- A LENGTH above 4,096 in FRAME: OVERSIZE, and the rest of the transaction is skipped (R219, R220). -/
def Link.oversize (l : Link) (length : Nat) : Link :=
  if l.assembler = .frame ∧ maxBody < length then { l.fail .oversize with assembler := .skip } else l

/-- LENGTH_OVERSIZE (R219, R220). -/
def execLengthOversize (length : Nat) (s : State) : Host.Outcome State Fault Refusal :=
  .next (s.event fun x => x.setLink (x.link.oversize length))

/-! ### A frame completes (R220, R221) -/

/-- The BODY length a frame's bytes carry (R233). -/
def frameLength (bytes : List Byte) : Nat := leNat (bytes.take 2)

/-- The bytes run from the first LENGTH byte through the second CHECK byte of one frame (R233). -/
def wholeFrame (bytes : List Byte) : Bool := frameLength bytes ≤ maxBody && bytes.length == frameLength bytes + 6

/-- The CRC-16 matches CHECK (R220). -/
def checkMatches (bytes : List Byte) : Bool :=
  le 2 (crc16 (bytes.take (bytes.length - 2))).toNat == bytes.drop (bytes.length - 2)

/-- KIND, TAG and BODY of a whole frame (R233). -/
def frameParts (bytes : List Byte) : Nat × Nat × List Byte :=
  (leNat ((bytes.drop 2).take 1), leNat ((bytes.drop 3).take 1), (bytes.drop 4).take (frameLength bytes))

/-- The KIND with its highest bit set (R223). -/
def badKindReply (kind : Nat) : Nat := if kind < 128 then kind + 128 else kind

/-- A command handed to the block that owns it (R221). -/
def runCommand (c : Instr) (s : State) : Host.Outcome State Fault Refusal :=
  match c with
  | .identify t => execIdentify t s
  | .getStatus t ps => execGetStatus t ps s
  | .readReports t n l => execReadReports t n l s
  | .setRoutes t ps => execSetRoutes t ps s
  | .reset t => execReset t s
  | .setTime t v => execSetTime t v s
  | .setPower t p => execSetPower t p s
  | .setThresholds t l c => execSetThresholds t l c s
  | .saveSettings t => execSaveSettings t s
  | .setCapture t a => execSetCapture t a s
  | .setSync t a => execSetSync t a s
  | .release t a => execRelease t a s
  | .setShotBase t n => execSetShotBase t n s
  | .setAf t a => execSetAf t a s
  | .setLens t a => execSetLens t a s
  | .listShots t a n => execListShots t a n s
  | .readShot t n => execReadShot t n s
  | .readThumb t n o l => execReadThumb t n o l s
  | .tagShot t n u p r => execTagShot t n u p r s
  | .hold t n k => execHold t n k s
  | .unhold t n k => execUnhold t n k s
  | .deleteShot t n => execDeleteShot t n s
  | .readCardIndex t p n => execReadCardIndex t p n s
  | .setLook t sl a => execSetLook t sl a s
  | .setCurve t sl ps => execSetCurve t sl ps s
  | .develop t n l => execDevelop t n l s
  | .setCardMode t m c => execSetCardMode t m c s
  | .grantWindow t sl m a l => execGrantWindow t sl m a l s
  | .recall t n k => execRecall t n k s
  | .setTether t a => execSetTether t a s
  | .setSendRule t i a => execSetSendRule t i a s
  | .enqueue t n k p d e => execEnqueue t n k p d e s
  | .cancelItem t m => execCancelItem t m s
  | .readQueue t p n => execReadQueue t p n s
  | .answerPull t p a r => execAnswerPull t p a r s
  | .rejoin t => execRejoin t s
  | _ => .next s

/-- A good frame is judged (R221). -/
def State.takeFrame (s : State) (kind tag : Nat) (body : List Byte) : Host.Outcome State Fault Refusal :=
  match decodeCommand kind tag body with
  | .command c => runCommand c s
  | .badKind => .next (if s.link.deaf then s.discardCommand else s.pushReply (badKindReply kind) tag .badKind [])
  | .badLength => .next (if s.link.deaf then s.discardCommand else s.pushReply (replyKind kind) tag .badLength [])

/-- The assembler's frame is complete and judged by its check (R219, R220). -/
def State.completeFrame (s : State) (bytes : List Byte) : Host.Outcome State Fault Refusal :=
  let s1 := s.setLink { s.link with assembler := .hunt }
  if checkMatches bytes then s1.takeFrame (frameParts bytes).1 (frameParts bytes).2.1 (frameParts bytes).2.2
  else .next (s1.setLink (s1.link.fail .check))

/-- FRAME_COMPLETE (R219 to R221, R223, R224, R233); bytes that are no whole frame complete none (log entry 3). -/
def execFrameComplete (bytes : List Byte) (s : State) : Host.Outcome State Fault Refusal :=
  if !s.held && s.link.assembler == .frame && wholeFrame bytes then s.completeFrame bytes else .next s

/-! ### A reply is read (R222, R231) -/

/-- The oldest reply leaves the queue (R222). -/
def Link.popReply (l : Link) : Link := { l with replies := l.replies.drop 1, shifting := false }

/-- The oldest reply leaves; when it is the ACCEPTED reply of a pending RESET, which is the last one queued, the COMMAND
reset begins (R222, R231). -/
def State.readReply (s : State) (reading : Nat) : State :=
  if s.link.shifting then
    let s1 := s.setLink s.link.popReply
    if s1.link.resetDue.isSome && s1.link.replies.isEmpty then s1.doReset .command reading else s1
  else s

/-- REPLY_READ (R222, R231). -/
def execReplyRead (reading : Nat) (s : State) : Host.Outcome State Fault Refusal := .next (s.event fun x => x.readReply reading)

/-- RESET_PENDING_TIMEOUT (R231). -/
def execResetPendingTimeout (reading : Nat) (s : State) : Host.Outcome State Fault Refusal :=
  .next (s.timer s.link.resetDue fun x => x.doReset .command reading)

end Sys2Proof.Machine
end

