-- ==== Sys2Proof/Machine/SensorEvents.lean ====
section
/-! DEFINITION. The events of CAP: the sensor, the release inputs, the flash and the frame (Chapter 2). -/

namespace Sys2Proof.Machine
open Sys2Proof

/-! ### The sensor (R37, R77) -/

/-- WARMUP_END (R37). -/
def execWarmupEnd (s : State) : Host.Outcome State Fault Refusal := .next (s.timer s.cap.warmDue State.sensorReady)

/-- A live frame: the next is due 16,667 µs after it, and its pupil lines reach FOC (R37, R77). -/
def State.liveFrame (s : State) (lines : List PupilLines) : State :=
  (s.setCap { s.cap with liveDue := s.cap.liveDue.map (· + 16667) }).arrival lines

/-- LIVE_FRAME (R37, R69 to R77). -/
def execLiveFrame (lines : List PupilLines) (s : State) : Host.Outcome State Fault Refusal :=
  .next (s.timer s.cap.liveDue fun x => x.liveFrame lines)

/-! ### The release inputs and the flash (R42, R61) -/

/-- A line takes a level, and its debouncer sees it (R42). -/
def State.lineLevel (s : State) (l : InputLine) (high : Bool) : State :=
  s.setCap (s.cap.setDebouncer l ((s.cap.debouncer l).see high s.sup.elapsed))

/-- LINE_LEVEL_CHANGE (R42); in the brown-out hold only the level is seen (log entry 29). -/
def execLineLevelChange (line : InputLine) (high : Bool) (s : State) : Host.Outcome State Fault Refusal :=
  .next ((s.setPins (s.pins.setLine line high)).event fun x => x.lineLevel line high)

/-- The moment the candidate of a line is recognized, by the debounce time in force (R42). -/
def State.recognitionDue (s : State) (l : InputLine) : Option Nat :=
  (s.cap.debouncer l).since.map (· + s.settings.capture.debounce)

/-- DEBOUNCE_RECOGNIZED (R42 to R46). -/
def execDebounceRecognized (line : InputLine) (s : State) : Host.Outcome State Fault Refusal :=
  .next (s.timer (s.recognitionDue line) fun x => x.recognize line)

/-- FLASH_READY_CHANGE (R42, R51, R61). -/
def execFlashReadyChange (high : Bool) (s : State) : Host.Outcome State Fault Refusal :=
  .next ((s.setPins { s.pins with flashRdy := high }).event fun x => x.notify .evaluate)

/-- The moment a running wait of the pending frame ends (R61). -/
def Cap.flashWaitDue (c : Cap) : Option Nat := c.frame.bind fun f => f.flashWait.due

/-- The flash wait of the pending frame expires (R61). -/
def State.expireFlashWait (s : State) : State :=
  (s.setCap { s.cap with frame := s.cap.frame.map fun f => { f with flashWait := .expired } }).notify .evaluate

/-- FLASH_WAIT_EXPIRY (R61). -/
def execFlashWaitExpiry (s : State) : Host.Outcome State Fault Refusal :=
  .next (s.timer s.cap.flashWaitDue State.expireFlashWait)

/-- The moment a pulse that has not begun begins (R61). -/
def Cap.pulseStart (c : Cap) : Option Nat := if c.flashSync then none else c.pulse.map (·.startDue)

/-- The moment a pulse that has begun ends (R61). -/
def Cap.pulseEnd (c : Cap) : Option Nat := if c.flashSync then c.pulse.map (·.endDue) else none

/-- FLASH_PULSE_START: FLASH_SYNC goes high (R61). -/
def execFlashPulseStart (s : State) : Host.Outcome State Fault Refusal :=
  .next (s.timer s.cap.pulseStart fun x => x.setCap { x.cap with flashSync := true })

/-- FLASH_PULSE_END: FLASH_SYNC goes low (R61). -/
def execFlashPulseEnd (s : State) : Host.Outcome State Fault Refusal :=
  .next (s.timer s.cap.pulseEnd fun x => x.setCap { x.cap with flashSync := false, pulse := none })

/-! ### The frame (R38, R50 to R54) -/

/-- The opportunity that has not come (R50). -/
def Cap.nextDue (c : Cap) : Option Nat :=
  match c.frame with
  | none => none
  | some f => if f.reached then none else some f.opp

/-- FRAME_OPPORTUNITY (R50, R51). -/
def execFrameOpportunity (s : State) : Host.Outcome State Fault Refusal := .next (s.timer s.cap.nextDue State.reachOpportunity)

/-- The end of the exposure under way (R37). -/
def Cap.exposureDue (c : Cap) : Option Nat := if c.sensor = .exposing then c.flight.map (·.exposureDue) else none

/-- EXPOSURE_END (R8, R37, R54). -/
def execExposureEnd (s : State) : Host.Outcome State Fault Refusal := .next (s.timer s.cap.exposureDue State.startReadout)

/-- The OB rows of the readout under way have not ended (R62). -/
def Cap.awaitsOb (c : Cap) : Bool := c.sensor == .readout && c.flight.any fun f => f.ob.isNone

/-- OB_ROWS_END (R62). -/
def execObRowsEnd (samples : List Nat) (s : State) : Host.Outcome State Fault Refusal :=
  .next (s.event fun x => if x.cap.awaitsOb then x.measureBlack samples else x)

/-- The end of the readout under way, whose OB rows have ended (R54; log entry 28). -/
def Cap.readoutDue (c : Cap) : Option Nat :=
  if c.sensor = .readout ∧ c.awaitsOb = false then c.flight.bind (·.readoutDue) else none

/-- The readout under way ends (R54). -/
def State.readoutOver (s : State) (quads : List Quad) (lines : List PupilLines) : State :=
  match s.cap.flight with
  | none => s
  | some f =>
    match f.ob with
    | none => s
    | some p => s.endReadout f p.1 p.2 quads lines

/-- READOUT_END (R23, R54, R63, R77). -/
def execReadoutEnd (quads : List Quad) (lines : List PupilLines) (s : State) : Host.Outcome State Fault Refusal :=
  .next (s.timer s.cap.readoutDue fun x => x.readoutOver quads lines)

end Sys2Proof.Machine
end

