-- ==== Sys2Proof/Machine/StationEvents.lean ====
section
/-! DEFINITION. The events of the tether link and of the tether queue (Chapters 7 and 8). -/

namespace Sys2Proof.Machine
open Sys2Proof

/-! ### Carrier and frames (R158, R161) -/

/-- CARRIER_UP (R161). -/
def execCarrierUp (s : State) : Host.Outcome State Fault Refusal := .next (s.event State.carrierUp)

/-- CARRIER_DOWN (R161). -/
def execCarrierDown (s : State) : Host.Outcome State Fault Refusal := .next (s.event State.carrierDown)

/-- RELAY_FRAME_BAD: the frame is judged by the table of R158 (log entry 31). -/
def execRelayFrameBad (frame : List Byte) (s : State) : Host.Outcome State Fault Refusal :=
  .next (s.event fun x => x.receiveFrame frame)

/-- RELAY_FRAME_DISREGARDED: the frame is judged by the table of R158 (log entry 31). -/
def execRelayFrameDisregarded (frame : List Byte) (s : State) : Host.Outcome State Fault Refusal :=
  .next (s.event fun x => x.receiveFrame frame)

/-- ACCEPT_RECEIVED (R158, R169). -/
def execAcceptReceived (transfer start credit : Nat) (s : State) : Host.Outcome State Fault Refusal :=
  .next (s.event fun x => x.receive (.accept transfer start credit))

/-- REFUSE_RECEIVED (R158, R174). -/
def execRefuseReceived (transfer : Nat) (reason : RefuseReason) (s : State) : Host.Outcome State Fault Refusal :=
  .next (s.event fun x => x.receive (.refuse transfer reason))

/-- ACK_RECEIVED (R158, R171). -/
def execAckReceived (transfer index credit : Nat) (s : State) : Host.Outcome State Fault Refusal :=
  .next (s.event fun x => x.receive (.ack transfer index credit))

/-- NAK_RECEIVED (R158, R173). -/
def execNakReceived (transfer index : Nat) (s : State) : Host.Outcome State Fault Refusal :=
  .next (s.event fun x => x.receive (.nak transfer index))

/-- BEACON_RECEIVED (R158, R162, R165). -/
def execBeaconReceived (counter : Nat) (status : StationStatus) (s : State) : Host.Outcome State Fault Refusal :=
  .next (s.event fun x => x.receive (.beacon counter status))

/-- PULL_RECEIVED (R158, R198 to R200). -/
def execPullReceived (pull : Nat) (kind : PullKind) (shot priority : Nat) (s : State) : Host.Outcome State Fault Refusal :=
  .next (s.event fun x => x.receive (.pull pull kind shot priority))

/-! ### Timers and the port (R159, R162, R168, R172, R190) -/

/-- BEACON_LOSS (R162). -/
def execBeaconLoss (s : State) : Host.Outcome State Fault Refusal := .next (s.timer s.tet.lossDue State.loseBeacons)

/-- The ack timer of a transfer in a state (R168, R172). -/
def Tet.ackTimer (t : Tet) (st : TransferState) : Option Nat :=
  match t.transfer with
  | none => none
  | some x => if x.state = st then x.ackDue else none

/-- OFFER_TIMEOUT (R168). -/
def execOfferTimeout (s : State) : Host.Outcome State Fault Refusal :=
  .next (s.timer (s.tet.ackTimer .offered) State.offerAgain)

/-- ACK_TIMEOUT (R172). -/
def execAckTimeout (s : State) : Host.Outcome State Fault Refusal := .next (s.timer (s.tet.ackTimer .sending) State.goBack)

/-- PORT_FREE (R159, R170). -/
def execPortFree (s : State) : Host.Outcome State Fault Refusal := .next (s.event State.portFree)

/-- The deadline of an item (R190). -/
def Tet.deadlineOf (t : Tet) (m : Nat) : Option Nat := (t.item m).bind (·.deadline)

/-- DEADLINE_EXPIRY (R190, R191). -/
def execDeadlineExpiry (item : Nat) (s : State) : Host.Outcome State Fault Refusal :=
  .next (s.timeTimer (s.tet.deadlineOf item) fun x => x.expireItem item)

end Sys2Proof.Machine
end

