-- ==== Sys2Proof/Machine/SupplyEvents.lean ====
section
/-! DEFINITION. The events of the Supervisor: the reset input, the brown-out hold, the supply readings, the end of a wake
and of a settings write (Chapter 9). -/

namespace Sys2Proof.Machine
open Sys2Proof

/-! ### Resets (R209, R215) -/

/-- PIN_RESET: the reset input is driven active and released (R215). -/
def execPinReset (reading : Nat) (s : State) : Host.Outcome State Fault Refusal :=
  .next (s.event fun x => x.doReset .pin reading)

/-- The part is in the brown-out hold, with or without its power lost (R209). -/
def State.enterHold (s : State) (lost : Bool) : State := s.setSup { s.sup with brownout := some lost }

/-- BROWNOUT_HOLD: the supply falls below 5,800 mV (R209). -/
def execBrownoutHold (s : State) : Host.Outcome State Fault Refusal := .next (if s.held then s else s.enterHold false)

/-- POWER_LOSS: the supply falls below 3,000 mV, which is below 5,800 mV too (R209). -/
def execPowerLoss (s : State) : Host.Outcome State Fault Refusal := .next (s.enterHold true)

/-- The cause of the reset that ends a hold (R209, R215). -/
def holdCause (lost : Bool) : ResetCause := if lost then .powerOn else .brownout

/-- The hold ends with its reset (R209). -/
def State.recover (s : State) (reading : Nat) : State :=
  match s.sup.brownout with
  | none => s
  | some lost => (s.doReset (holdCause lost) reading).settle

/-- SUPPLY_RECOVERED: the supply reaches 5,900 mV (R209). -/
def execSupplyRecovered (reading : Nat) (s : State) : Host.Outcome State Fault Refusal := .next (s.recover reading)

/-! ### Readings, the wake and the settings write (R206, R214, R217) -/

/-- SUPPLY_READING: the reading of every 1,000 µs (R206, R207). -/
def execSupplyReading (millivolts : Nat) (s : State) : Host.Outcome State Fault Refusal :=
  .next (s.timer (some s.sup.readingDue) fun x => x.takeReading millivolts)

/-- The running wake ends (R214). -/
def State.wakeOver (s : State) : State :=
  match s.sup.wake with
  | none => s
  | some w => s.endWake w

/-- WAKE_END (R214). -/
def execWakeEnd (s : State) : Host.Outcome State Fault Refusal := .next (s.timer (s.sup.wake.map (·.endDue)) State.wakeOver)

/-- SETTINGS_WRITE_END (R217). -/
def execSettingsWriteEnd (passes : Bool) (s : State) : Host.Outcome State Fault Refusal :=
  .next (s.timer s.sup.store.writeDue fun x => x.endWrite passes)

end Sys2Proof.Machine
end

