-- ==== Sys2Proof/Machine/Dispatch.lean ====
section
/-! DEFINITION. Which meaning each command has. -/

namespace Sys2Proof.Machine
open Sys2Proof

/-- The effect of a command on everything but the queue. -/
def exec (i : Instr) (s : State) : Host.Outcome State Fault Refusal :=
  match i with
  | .identify tag => Sys2Proof.Machine.execIdentify tag s
  | .getStatus tag parts => Sys2Proof.Machine.execGetStatus tag parts s
  | .readReports tag count sel => Sys2Proof.Machine.execReadReports tag count sel s
  | .setRoutes tag pairs => Sys2Proof.Machine.execSetRoutes tag pairs s
  | .reset tag => Sys2Proof.Machine.execReset tag s
  | .setTime tag time => Sys2Proof.Machine.execSetTime tag time s
  | .setPower tag target => Sys2Proof.Machine.execSetPower tag target s
  | .setThresholds tag low critical => Sys2Proof.Machine.execSetThresholds tag low critical s
  | .saveSettings tag => Sys2Proof.Machine.execSaveSettings tag s
  | .setCapture tag args => Sys2Proof.Machine.execSetCapture tag args s
  | .setSync tag args => Sys2Proof.Machine.execSetSync tag args s
  | .release tag action => Sys2Proof.Machine.execRelease tag action s
  | .setShotBase tag number => Sys2Proof.Machine.execSetShotBase tag number s
  | .setAf tag args => Sys2Proof.Machine.execSetAf tag args s
  | .setLens tag args => Sys2Proof.Machine.execSetLens tag args s
  | .listShots tag start count => Sys2Proof.Machine.execListShots tag start count s
  | .readShot tag shot => Sys2Proof.Machine.execReadShot tag shot s
  | .readThumb tag shot offset length => Sys2Proof.Machine.execReadThumb tag shot offset length s
  | .tagShot tag shot urgent picked rating => Sys2Proof.Machine.execTagShot tag shot urgent picked rating s
  | .hold tag shot kind => Sys2Proof.Machine.execHold tag shot kind s
  | .unhold tag shot kind => Sys2Proof.Machine.execUnhold tag shot kind s
  | .deleteShot tag shot => Sys2Proof.Machine.execDeleteShot tag shot s
  | .readCardIndex tag position count => Sys2Proof.Machine.execReadCardIndex tag position count s
  | .setLook tag slot args => Sys2Proof.Machine.execSetLook tag slot args s
  | .setCurve tag slot points => Sys2Proof.Machine.execSetCurve tag slot points s
  | .develop tag shot look => Sys2Proof.Machine.execDevelop tag shot look s
  | .setCardMode tag mode content => Sys2Proof.Machine.execSetCardMode tag mode content s
  | .grantWindow tag slot mount start length => Sys2Proof.Machine.execGrantWindow tag slot mount start length s
  | .recall tag shot kind => Sys2Proof.Machine.execRecall tag shot kind s
  | .setTether tag args => Sys2Proof.Machine.execSetTether tag args s
  | .setSendRule tag index args => Sys2Proof.Machine.execSetSendRule tag index args s
  | .enqueue tag shot kind priority deadline policy => Sys2Proof.Machine.execEnqueue tag shot kind priority deadline policy s
  | .cancelItem tag item => Sys2Proof.Machine.execCancelItem tag item s
  | .readQueue tag position count => Sys2Proof.Machine.execReadQueue tag position count s
  | .answerPull tag pull answer priority => Sys2Proof.Machine.execAnswerPull tag pull answer priority s
  | .rejoin tag => Sys2Proof.Machine.execRejoin tag s
  | .chipSelectFall => Sys2Proof.Machine.execChipSelectFall s
  | .chipSelectRise => Sys2Proof.Machine.execChipSelectRise s
  | .lengthOversize length => Sys2Proof.Machine.execLengthOversize length s
  | .frameComplete bytes => Sys2Proof.Machine.execFrameComplete bytes s
  | .replyRead reading => Sys2Proof.Machine.execReplyRead reading s
  | .resetPendingTimeout reading => Sys2Proof.Machine.execResetPendingTimeout reading s
  | .pinReset reading => Sys2Proof.Machine.execPinReset reading s
  | .brownoutHold => Sys2Proof.Machine.execBrownoutHold s
  | .powerLoss => Sys2Proof.Machine.execPowerLoss s
  | .supplyRecovered reading => Sys2Proof.Machine.execSupplyRecovered reading s
  | .supplyReading millivolts => Sys2Proof.Machine.execSupplyReading millivolts s
  | .wakeEnd => Sys2Proof.Machine.execWakeEnd s
  | .settingsWriteEnd passes => Sys2Proof.Machine.execSettingsWriteEnd passes s
  | .warmupEnd => Sys2Proof.Machine.execWarmupEnd s
  | .liveFrame lines => Sys2Proof.Machine.execLiveFrame lines s
  | .lineLevelChange line high => Sys2Proof.Machine.execLineLevelChange line high s
  | .debounceRecognized line => Sys2Proof.Machine.execDebounceRecognized line s
  | .flashReadyChange high => Sys2Proof.Machine.execFlashReadyChange high s
  | .flashWaitExpiry => Sys2Proof.Machine.execFlashWaitExpiry s
  | .flashPulseStart => Sys2Proof.Machine.execFlashPulseStart s
  | .flashPulseEnd => Sys2Proof.Machine.execFlashPulseEnd s
  | .frameOpportunity => Sys2Proof.Machine.execFrameOpportunity s
  | .exposureEnd => Sys2Proof.Machine.execExposureEnd s
  | .obRowsEnd samples => Sys2Proof.Machine.execObRowsEnd samples s
  | .readoutEnd quads lines => Sys2Proof.Machine.execReadoutEnd quads lines s
  | .lensMoving => Sys2Proof.Machine.execLensMoving s
  | .lensSettled position => Sys2Proof.Machine.execLensSettled position s
  | .lensAnswerTimeout => Sys2Proof.Machine.execLensAnswerTimeout s
  | .lostTimerExpiry => Sys2Proof.Machine.execLostTimerExpiry s
  | .focusWaitExpiry => Sys2Proof.Machine.execFocusWaitExpiry s
  | .inFocusAgeExpiry => Sys2Proof.Machine.execInFocusAgeExpiry s
  | .thumbPassEnd => Sys2Proof.Machine.execThumbPassEnd s
  | .renderPassEnd => Sys2Proof.Machine.execRenderPassEnd s
  | .cardInserted slot => Sys2Proof.Machine.execCardInserted slot s
  | .mountComplete slot capacity writeProtected => Sys2Proof.Machine.execMountComplete slot capacity writeProtected s
  | .mountFailed slot => Sys2Proof.Machine.execMountFailed slot s
  | .mountTimeout slot => Sys2Proof.Machine.execMountTimeout slot s
  | .cardRemoved slot => Sys2Proof.Machine.execCardRemoved slot s
  | .extentWriteEnd slot success => Sys2Proof.Machine.execExtentWriteEnd slot success s
  | .extentReadEnd slot success data => Sys2Proof.Machine.execExtentReadEnd slot success data s
  | .carrierUp => Sys2Proof.Machine.execCarrierUp s
  | .carrierDown => Sys2Proof.Machine.execCarrierDown s
  | .relayFrameBad frame => Sys2Proof.Machine.execRelayFrameBad frame s
  | .relayFrameDisregarded frame => Sys2Proof.Machine.execRelayFrameDisregarded frame s
  | .acceptReceived transfer start credit => Sys2Proof.Machine.execAcceptReceived transfer start credit s
  | .refuseReceived transfer reason => Sys2Proof.Machine.execRefuseReceived transfer reason s
  | .ackReceived transfer index credit => Sys2Proof.Machine.execAckReceived transfer index credit s
  | .nakReceived transfer index => Sys2Proof.Machine.execNakReceived transfer index s
  | .beaconReceived counter status => Sys2Proof.Machine.execBeaconReceived counter status s
  | .pullReceived pull kind shot priority => Sys2Proof.Machine.execPullReceived pull kind shot priority s
  | .beaconLoss => Sys2Proof.Machine.execBeaconLoss s
  | .offerTimeout => Sys2Proof.Machine.execOfferTimeout s
  | .ackTimeout => Sys2Proof.Machine.execAckTimeout s
  | .portFree => Sys2Proof.Machine.execPortFree s
  | .deadlineExpiry item => Sys2Proof.Machine.execDeadlineExpiry item s
  | .syncByte => Sys2Proof.Machine.execSyncByte s

end Sys2Proof.Machine
end

