-- ==== Sys2Proof/Machine/Step.lean ====
section
/-! DEFINITION. One step: the command at the front of the queue, or a microsecond passing. -/

namespace Sys2Proof.Machine
open Sys2Proof

/-- One microsecond passes in which nothing happens; in the brown-out hold no clock runs (R203, R205, R209; log entry
1). -/
def State.tick (s : State) : State := if s.held then s else s.elapse 1

/-- One step of the part. -/
def step (s : State) : Host.Outcome State Fault Refusal :=
  match s.pending with
  | [] => .next s.tick
  | c :: cs => exec c (s.setPending cs)

/-- The command a word spells put at the front of the queue; no word spells one. -/
def State.withFetchWord (s : State) (nbits w : Nat) : State :=
  match decodeTableWord nbits w with
  | none => s
  | some c => s.setPending (c :: s.pending)

end Sys2Proof.Machine
end

