-- ==== Sys2Proof/Safety.lean ====
section
/-! DEFINITION. The terms in which statements about the part are made: when a host command is taken, what a step's end
leaves alone, and the invariants a run keeps. -/

namespace Sys2Proof.Machine
open Sys2Proof

/-! ### When a command is taken -/

/-- The part runs and the link takes a good frame: no brown-out hold, no RESET pending, room for a reply (R209,
R221). -/
structure State.Takes (s : State) : Prop where
  running : s.held = false
  noReset : s.link.resetDue = none
  room : s.link.replies.length < 8

/-- A command that is refused in DORMANT is handed to its block (R213, R221). -/
def State.Awake (s : State) : Prop := s.Takes ∧ s.sup.power ≠ .dormant

/-- No work is waiting within the step, and focus and the gate are up to date: a step's end changes nothing. -/
def State.Steady (s : State) : Prop := s.notices = [] ∧ s.refresh = s

/-! ### Values outside their set (R223) -/

end Sys2Proof.Machine

namespace Sys2Proof
open Machine

/-- An optional number whose presence byte is outside 0 and 1 (R224). -/
def badPresence (f : Option (Option Nat)) : Bool := f.isNone

/-- A picture kind that HOLD, UNHOLD and RECALL do not take: none of the kinds, or THUMB (R29, R147). -/
def badPict (k : Option Pict) : Bool := k.isNone || k == some .thumb

/-- The command carries an enumerated value, kind, index or presence byte outside its set, or SET_TETHER an address of
the group or all-zero kind: what BAD_VALUE answers (R223). -/
def Instr.outside : Instr → Bool
  | .getStatus _ parts => parts.any Option.isNone
  | .readReports _ _ sel => sel.isNone
  | .setRoutes _ pairs => pairs.any fun p => p.1.isNone || p.2.isNone
  | .setPower _ target => target.isNone
  | .setCapture _ a => a.depth.isNone || a.drive.isNone || a.trigger.isNone
  | .release _ action => action.isNone
  | .setAf _ a => a.mode.isNone
  | .setLens _ a => a.present.isNone
  | .tagShot _ _ urgent picked rating => urgent.isNone || picked.isNone || badPresence rating
  | .hold _ _ k | .unhold _ _ k | .recall _ _ k => badPict k
  | .setLook _ slot a => a.wb.isNone || a.scale.isNone || a.auto.isNone || a.select.isNone || 8 ≤ slot || 4 ≤ a.curve
  | .setCurve _ slot _ => 4 ≤ slot
  | .develop _ _ look => 8 ≤ look
  | .setCardMode _ mode content => mode.isNone || content.isNone
  | .grantWindow _ slot _ _ _ => slot.isNone
  | .setTether _ a =>
    a.autoRejoin.isNone || a.pullList.isNone || a.pullThumb.isNone || a.pullRendition.isNone || a.pullRaw.isNone
      || groupAddress a.station || groupAddress a.part || a.part == 0
  | .setSendRule _ index a =>
    a.matching.isNone || a.kind.isNone || badPresence a.offset || a.policy.isNone || 2 ≤ index
  | .enqueue _ _ k _ deadline policy => k.isNone || badPresence deadline || policy.isNone
  | .answerPull _ _ answer _ => answer.isNone
  | _ => false

end Sys2Proof

namespace Sys2Proof.Machine
open Sys2Proof

/-! ### What a step's end leaves alone -/

/-- What the end of a step leaves alone in a card slot. -/
structure KeptSlot where
  state : SlotState
  mount : Option Nat
  capacity : Option Nat
  mountDue : Option Nat
  window : Option Window
  cursor : Nat
  pendingWindow : Option Window
  queue : List WriteJob
  retry : Nat
  deriving DecidableEq, Repr

/-- The part of a slot the end of a step leaves alone. -/
def CardSlot.kept (c : CardSlot) : KeptSlot :=
  { state := c.state, mount := c.mount, capacity := c.capacity, mountDue := c.mountDue, window := c.window,
    cursor := c.cursor, pendingWindow := c.pendingWindow, queue := c.queue, retry := c.retry }

/-- What the end of a step leaves alone: the queue of commands, the pins, the clocks and the power state, the settings,
the replies and the link's counts, the press states and the sensor's own state, the measured zones and the lens, the card
index, the write jobs and windows, and the tether link with its inbox and its counts. -/
structure Kept where
  pending : List Instr
  pins : Pins
  sup : Sup
  settings : Settings
  assembler : Assembler
  replies : List Reply
  shifting : Bool
  errors : Nat
  lastError : Option LinkError
  discarded : Nat
  resetDue : Option Nat
  host : HostRelease
  relHalf : Debouncer
  relFull : Debouncer
  trigIn : Debouncer
  black : Option Nat
  warmDue : Option Nat
  flashSync : Bool
  zones : List Zone
  measureCount : Nat
  lens : Option Lens
  position : Option Nat
  line : Option Move
  lastMove : Option MoveKind
  superseded : Nat
  repeats : Nat
  inFocusTime : Option Nat
  cardIndex : List IndexEntry
  addedCount : Nat
  dramOn : Bool
  completed : Nat
  served : Nat
  abandoned : Nat
  slotA : KeptSlot
  slotB : KeptSlot
  mountCounter : Nat
  linkState : LinkState
  carrier : Bool
  heard : Bool
  lossDue : Option Nat
  lastBeacon : Option Nat
  status : Option StationStatus
  beaconTime : Option Nat
  tec : Nat
  recErrors : Nat
  rejoin : Nat
  inbox : List Pull
  nextItem : Nat
  nextSeq : Nat
  delivered : Nat
  declined : Nat
  queueFull : Nat
  deriving DecidableEq, Repr

/-- The part of a state the end of a step leaves alone. -/
def State.kept (s : State) : Kept :=
  { pending := s.pending, pins := s.pins, sup := s.sup, settings := s.settings, assembler := s.link.assembler,
    replies := s.link.replies, shifting := s.link.shifting, errors := s.link.errors, lastError := s.link.lastError,
    discarded := s.link.discarded, resetDue := s.link.resetDue, host := s.cap.host, relHalf := s.cap.relHalf,
    relFull := s.cap.relFull, trigIn := s.cap.trigIn, black := s.cap.black, warmDue := s.cap.warmDue,
    flashSync := s.cap.flashSync, zones := s.foc.zones, measureCount := s.foc.measureCount, lens := s.foc.lens,
    position := s.foc.position, line := s.foc.line, lastMove := s.foc.lastMove,
    superseded := s.foc.superseded, repeats := s.foc.repeats, inFocusTime := s.foc.inFocusTime, cardIndex := s.sbm.cardIndex,
    addedCount := s.sbm.addedCount, dramOn := s.sbm.dramOn, completed := s.dev.completed, served := s.dev.served,
    abandoned := s.dev.abandoned, slotA := s.crd.a.kept, slotB := s.crd.b.kept, mountCounter := s.crd.mountCounter,
    linkState := s.tet.state, carrier := s.tet.carrier, heard := s.tet.heard, lossDue := s.tet.lossDue,
    lastBeacon := s.tet.lastBeacon, status := s.tet.status, beaconTime := s.tet.beaconTime, tec := s.tet.tec, recErrors := s.tet.recErrors,
    rejoin := s.tet.rejoin, inbox := s.tet.inbox, nextItem := s.tet.nextItem, nextSeq := s.tet.nextSeq,
    delivered := s.tet.delivered, declined := s.tet.declined,
    queueFull := s.tet.queueFull }

/-! ### The queues of the link -/

/-- The queues and counts of the link stay within their sizes (R222, R225). -/
structure Link.Bounded (l : Link) : Prop where
  replies : l.replies.length ≤ 8
  reports : l.reports.length ≤ 64
  nextSeq : l.nextSeq < 65536
  lost : l.lost ≤ 65535

/-! ### Every extent has one place (R1) -/

/-- The extents an object names. -/
def extentsOf (o : Option Obj) : List Nat := (o.map (·.extents)).getD []

/-- The extents the objects of an entry name. -/
def Shot.extents (e : Option Shot) : List Nat :=
  match e with
  | none => []
  | some sh => extentsOf sh.raw ++ extentsOf sh.rendition

/-- Every extent with its places: the free list, then the extent lists of all objects. -/
def Sbm.places (b : Sbm) : List Nat := b.freeList ++ b.shots.flatMap Shot.extents

/-- A RING entry has no shot number and no rendition (R5, R14). -/
def Shot.ringOk (e : Option Shot) : Prop := ∀ sh, e = some sh → sh.state = .ring → sh.number = none ∧ sh.rendition = none

/-- A recall brings back a raw or a rendition (R147). -/
def CardSlot.recallsOk (c : CardSlot) : Prop := ∀ r, r ∈ c.recalls → r.kind ≠ .thumb

/-- Every extent has exactly one place (R1), with what keeps it so: RING entries own no rendition, and no recall is of
a thumbnail. -/
structure State.Partitioned (s : State) : Prop where
  places : s.sbm.places.Perm (List.range 2048)
  ring : ∀ e, e ∈ s.sbm.shots → Shot.ringOk e
  recallsA : s.crd.a.recallsOk
  recallsB : s.crd.b.recallsOk

/-! ### The settings stay in range -/

/-- R40. -/
structure Crop.Ok (c : Crop) : Prop where
  aligned : c.left % 16 = 0 ∧ c.top % 16 = 0 ∧ c.width % 16 = 0 ∧ c.height % 16 = 0
  width : 1024 ≤ c.width
  height : 768 ≤ c.height
  across : c.left + c.width ≤ 6000
  down : c.top + c.height ≤ 4000

/-- R39. -/
structure CaptureSettings.Ok (c : CaptureSettings) : Prop where
  exposure : 32 ≤ c.exposure ∧ c.exposure ≤ 30000000
  gain : c.gain ≤ 15
  crop : c.crop.Ok
  rate : 1 ≤ c.rate ∧ c.rate ≤ c.depth.maxRate
  intervalHolds : c.drive ≠ .single → c.exposure + c.depth.readout ≤ 1000000 / c.rate
  ringDepth : 1 ≤ c.ringDepth ∧ c.ringDepth ≤ 8
  debounce : 1 ≤ c.debounce ∧ c.debounce ≤ 50000
  step : 1 ≤ c.step ∧ c.step ≤ 256

/-- R59. -/
structure SyncSettings.Ok (g : SyncSettings) : Prop where
  period : 1 ≤ g.period ∧ g.period ≤ 16
  delay : g.delay ≤ 100000
  duration : 1 ≤ g.duration ∧ g.duration ≤ 100000
  wait : g.wait ≤ 1000

/-- R78, R79. -/
structure AfSettings.Ok (a : AfSettings) : Prop where
  across : 1 ≤ a.area.width ∧ a.area.left + a.area.width ≤ 15
  down : 1 ≤ a.area.height ∧ a.area.top + a.area.height ≤ 10
  minConf : 1 ≤ a.minConf ∧ a.minConf ≤ 255
  tolerance : 1 ≤ a.tolerance ∧ a.tolerance ≤ 64
  focusWait : a.focusWait ≤ 1000
  searchStep : 1 ≤ a.searchStep ∧ a.searchStep ≤ 4000

/-- R121, R122. -/
structure Look.Ok (l : Look) : Prop where
  r : 512 ≤ l.gains.r ∧ l.gains.r ≤ 8191
  g : 512 ≤ l.gains.g ∧ l.gains.g ≤ 8191
  b : 512 ≤ l.gains.b ∧ l.gains.b ≤ 8191
  curve : l.curve < 4

/-- R122. -/
def curveOk (t : List Nat) : Prop := t.length = 17 ∧ ∀ p ∈ t, p ≤ 255

/-- R192. -/
structure SendRule.Ok (r : SendRule) : Prop where
  priority : r.priority ≤ 31
  offset : ∀ ms, r.offset = some ms → 1 ≤ ms ∧ ms ≤ 3600000

/-- R176, R197. -/
structure TetherSettings.Ok (t : TetherSettings) : Prop where
  addresses : groupAddress t.station = false ∧ groupAddress t.part = false ∧ t.part ≠ 0
  etherType : 0x600 ≤ t.etherType ∧ t.etherType ≤ 0xFFFF
  ackTimeout : 20 ≤ t.ackTimeout ∧ t.ackTimeout ≤ 2000
  pullCap : t.pullCap ≤ 31
  urgentLevel : t.urgentLevel ≤ 31

/-- Every working setting lies in the range its rule gives. -/
structure Settings.Ok (g : Settings) : Prop where
  capture : g.capture.Ok
  sync : g.sync.Ok
  af : g.af.Ok
  looks : g.looks.length = 8 ∧ ∀ l ∈ g.looks, l.Ok
  curves : g.curves.length = 4 ∧ ∀ t ∈ g.curves, curveOk t
  currentLook : g.currentLook < 8
  rule0 : g.rule0.Ok
  rule1 : g.rule1.Ok
  tether : g.tether.Ok
  routes : g.routes.length = 28
  low : 6000 ≤ g.low ∧ g.low ≤ 7600
  critical : 5900 ≤ g.critical ∧ g.critical + 100 ≤ g.low

/-- The working settings are in range, and so are the stored image and the copy a running write carries (R216). -/
structure State.SettingsOk (s : State) : Prop where
  working : s.settings.Ok
  image : ∀ g, s.sup.store.image = some g → g.Ok
  copy : ∀ g, s.sup.store.copy = some g → g.Ok

end Sys2Proof.Machine
end

