-- ==== Sys2Proof/WellFormed.lean ====
section
/-! DEFINITION. Which commands the outside can send: numbers within the width their field has on the command link
(R224) or on the relay link (R157, R235), lists within their lengths, samples within their bit depth. -/

namespace Sys2Proof

/-- A number fits `k` bytes. -/
def fits (k n : Nat) : Bool := n < 256 ^ k

/-- An optional number fits `k` bytes when it is present. -/
def fitsOpt (k : Nat) : Option (Option Nat) → Bool
  | some (some n) => fits k n
  | some none | none => true

/-- The width of each field of SET_CAPTURE (R39). -/
def CaptureArgs.wf (a : CaptureArgs) : Bool :=
  fits 4 a.exposure && fits 1 a.gain && fits 2 a.left && fits 2 a.top && fits 2 a.width && fits 2 a.height && fits 1 a.rate
    && fits 1 a.ringDepth && fits 2 a.debounce && fits 2 a.step

/-- The width of each field of SET_SYNC (R59). -/
def SyncArgs.wf (a : SyncArgs) : Bool := fits 1 a.period && fits 4 a.delay && fits 4 a.duration && fits 2 a.wait

/-- The width of each field of SET_AF (R78). -/
def AfArgs.wf (a : AfArgs) : Bool :=
  fits 1 a.left && fits 1 a.top && fits 1 a.width && fits 1 a.height && fits 1 a.minConf && fits 1 a.tolerance
    && fits 2 a.focusWait && fits 2 a.searchStep

/-- The width of each field of SET_LENS (R95). -/
def LensArgs.wf (a : LensArgs) : Bool :=
  fits 2 a.near && fits 2 a.far && fits 2 a.gain && fits 2 a.maxPredict && fits 2 a.position

/-- The width of each field of SET_LOOK (R122). -/
def LookArgs.wf (a : LookArgs) : Bool := fits 2 a.gR && fits 2 a.gG && fits 2 a.gB && fits 1 a.curve

/-- The width of each field of SET_TETHER (R176, R197). -/
def TetherArgs.wf (a : TetherArgs) : Bool :=
  fits 2 a.etherType && fits 2 a.ackTimeout && fits 1 a.pullCap && fits 1 a.urgentLevel

/-- The width of each field of SET_SEND_RULE (R192). -/
def RuleArgs.wf (a : RuleArgs) : Bool := fits 1 a.priority && fitsOpt 4 a.offset

/-- A quad holds samples of at most 14 bits (R38). -/
def Quad.wf (q : Quad) : Bool := q.r < 16384 && q.g1 < 16384 && q.g2 < 16384 && q.b < 16384

/-- A pupil line: 64 samples of 10 bits, each from 0 to 1,023 (R69). -/
def pupilLine (l : List Nat) : Bool := l.length == 64 && l.all (· < 1024)

/-- The two pupil lines of a zone (R69). -/
def PupilLines.wf (p : PupilLines) : Bool := pupilLine p.l && pupilLine p.r

/-- The pupil lines of a frame: two for each of the 150 zones (R68, R69). -/
def linesWf (lines : List PupilLines) : Bool := lines.length == 150 && lines.all PupilLines.wf

/-- A card block count or number (R132). -/
def blockCount (n : Nat) : Bool := 1 ≤ n && fits 4 n

/-- A command the outside can send. -/
def Instr.wf : Instr → Bool
  | .identify t | .reset t | .saveSettings t | .rejoin t => fits 1 t
  | .getStatus t parts => fits 1 t && parts.length ≤ 9
  | .readReports t count _ => fits 1 t && fits 1 count
  | .setRoutes t pairs => fits 1 t && 1 ≤ pairs.length && pairs.length ≤ 28
  | .setTime t time => fits 1 t && fits 8 time
  | .setPower t _ => fits 1 t
  | .setThresholds t low critical => fits 1 t && fits 2 low && fits 2 critical
  | .setCapture t a => fits 1 t && a.wf
  | .setSync t a => fits 1 t && a.wf
  | .release t _ => fits 1 t
  | .setShotBase t n => fits 1 t && fits 4 n
  | .setAf t a => fits 1 t && a.wf
  | .setLens t a => fits 1 t && a.wf
  | .listShots t start count => fits 1 t && fits 4 start && fits 1 count
  | .readShot t n => fits 1 t && fits 4 n
  | .readThumb t n offset length => fits 1 t && fits 4 n && fits 4 offset && fits 2 length
  | .tagShot t n _ _ rating => fits 1 t && fits 4 n && fitsOpt 1 rating
  | .hold t n _ => fits 1 t && fits 4 n
  | .unhold t n _ => fits 1 t && fits 4 n
  | .deleteShot t n => fits 1 t && fits 4 n
  | .readCardIndex t position count => fits 1 t && fits 2 position && fits 1 count
  | .setLook t slot a => fits 1 t && fits 1 slot && a.wf
  | .setCurve t slot points => fits 1 t && fits 1 slot && points.length == 17 && points.all (fits 2)
  | .develop t n look => fits 1 t && fits 4 n && fits 1 look
  | .setCardMode t _ _ => fits 1 t
  | .grantWindow t _ mount start length => fits 1 t && fits 2 mount && fits 4 start && fits 4 length
  | .recall t n _ => fits 1 t && fits 4 n
  | .setTether t a => fits 1 t && a.wf
  | .setSendRule t index a => fits 1 t && fits 1 index && a.wf
  | .enqueue t n _ priority deadline _ => fits 1 t && fits 4 n && fits 1 priority && fitsOpt 8 deadline
  | .cancelItem t item => fits 1 t && fits 4 item
  | .readQueue t position count => fits 1 t && fits 1 position && fits 1 count
  | .answerPull t pull _ priority => fits 1 t && fits 2 pull && fits 1 priority
  | .lengthOversize length => 4096 < length && fits 2 length
  | .frameComplete bytes => 6 ≤ bytes.length && bytes.length ≤ 4102
  | .replyRead reading | .resetPendingTimeout reading | .pinReset reading => fits 2 reading
  | .supplyRecovered reading | .supplyReading reading => fits 2 reading
  | .liveFrame lines => linesWf lines
  | .obRowsEnd samples => samples.length ≤ 1024 && samples.all (· < 16384)
  | .readoutEnd quads lines => quads.length ≤ 6000000 && quads.all Quad.wf && linesWf lines
  | .lensSettled position => fits 2 position
  | .mountComplete _ capacity _ => blockCount capacity
  | .extentReadEnd _ _ data => data.length ≤ 1048576
  | .acceptReceived transfer start credit => fits 2 transfer && fits 4 start && fits 1 credit
  | .refuseReceived transfer _ => fits 2 transfer
  | .ackReceived transfer index credit => fits 2 transfer && fits 4 index && fits 1 credit
  | .nakReceived transfer index => fits 2 transfer && fits 4 index
  | .beaconReceived counter _ => fits 2 counter
  | .pullReceived pull _ n priority => fits 2 pull && fits 4 n && fits 1 priority
  | .deadlineExpiry item => fits 4 item
  | .chipSelectFall | .chipSelectRise | .brownoutHold | .powerLoss | .wakeEnd | .settingsWriteEnd _ | .warmupEnd => true
  | .lineLevelChange .. | .debounceRecognized _ | .flashReadyChange _ | .flashWaitExpiry | .flashPulseStart => true
  | .flashPulseEnd | .frameOpportunity | .exposureEnd | .lensMoving | .lensAnswerTimeout | .lostTimerExpiry => true
  | .focusWaitExpiry | .inFocusAgeExpiry | .thumbPassEnd | .renderPassEnd | .cardInserted _ | .mountFailed _ => true
  | .mountTimeout _ | .cardRemoved _ | .extentWriteEnd .. | .carrierUp | .carrierDown | .relayFrameBad _ => true
  | .relayFrameDisregarded _ | .beaconLoss | .offerTimeout | .ackTimeout | .portFree | .syncByte => true

end Sys2Proof
end

