-- ==== Sys2Proof/Certificates/Slice0/Obligations.lean ====
section
/-! DEFINITION. The statements about the part, for the provers: one definition for each entry of OBLIGATIONS.json. -/

open Sys2Proof Sys2Proof.Machine

/-- When a command is at the front of the queue, a step is exec of that command on the state with the queue's rest.
The queue is the model's own, so this is the model's frame of a run and no rule of the manual. (0 Scope.) -/
def Obligations.StepRunsTheFrontCommand : Prop :=
  ∀ (c : Instr) (cs : List Instr) (s : State), s.pending = c :: cs → step s = exec c { s with pending := cs }

/-- With an empty queue a step adds 1 to the elapsed microseconds and to the time base and changes nothing else, and
in the brown-out hold it changes nothing. The tick on an empty queue is the model's choice (log entry 1). (R203, R205,
R209.) -/
def Obligations.IdleStepPassesAMicrosecond : Prop :=
  (∀ s : State, s.pending = [] → s.sup.brownout = none → s.sup.timeBase + 1 < 2 ^ 64 →
    step s = .next { s with sup := { s.sup with elapsed := s.sup.elapsed + 1, timeBase := s.sup.timeBase + 1 } })
  ∧ (∀ s : State, s.pending = [] → s.sup.brownout ≠ none → step s = .next s)

/-- State.reset has every extent free in ascending order, 64 FREE entries, next shot number 1, an empty card index, no
recognized press, an unset baseline, 150 unmeasured zones, focus IDLE, an empty develop queue, both slots ABSENT, the
link DOWN with clear counters, item number 1 next, an empty inbox, ACTIVE power, the factory settings and empty
queues. The reset is the POWER_ON reset of a new part with its first reading at 7,200 mV (the model's choice, log
entry 5). (R1, R7, R26, R62, R76, R105, R128, R155, R178, R202, R216, R232.) -/
def Obligations.ResetLeavesTheStatedValues : Prop :=
  State.reset.sbm.freeList = List.range 2048 ∧ State.reset.sbm.shots = List.replicate 64 none
  ∧ State.reset.sbm.nextNumber = some 1 ∧ State.reset.sbm.cardIndex = [] ∧ State.reset.sbm.addedCount = 0
  ∧ State.reset.cap.half = false ∧ State.reset.cap.full = false ∧ State.reset.cap.black = none
  ∧ State.reset.cap.drive = .idle ∧ State.reset.cap.sensor = .warming
  ∧ State.reset.foc.zones = List.replicate 150 Zone.unmeasured ∧ State.reset.foc.state = .idle ∧ State.reset.foc.lens = none
  ∧ State.reset.dev.queue = [] ∧ State.reset.dev.engine = .idle
  ∧ State.reset.crd.a.state = .absent ∧ State.reset.crd.b.state = .absent ∧ State.reset.crd.mountCounter = 1
  ∧ State.reset.tet.state = .down ∧ State.reset.tet.tec = 0 ∧ State.reset.tet.recErrors = 0 ∧ State.reset.tet.nextItem = 1
  ∧ State.reset.tet.inbox = [] ∧ State.reset.tet.items = [] ∧ State.reset.tet.transfer = none
  ∧ State.reset.sup.power = .active ∧ State.reset.sup.timeBase = 0 ∧ State.reset.sup.wake = none
  ∧ State.reset.settings = Settings.factory
  ∧ State.reset.link.replies = [] ∧ State.reset.link.reports = [] ∧ State.reset.link.nextSeq = 0 ∧ State.reset.link.errors = 0

/-- State.reset has its link queues within their sizes, every working setting in range, and every extent in exactly
one place. (R1, R216, R222, R225.) -/
def Obligations.ResetMeetsTheInvariants : Prop :=
  State.reset.link.Bounded ∧ State.reset.SettingsOk ∧ State.reset.Partitioned

/-- In a state in which no block has asked another for work and focus and the gate are up to date, carrying the step
to its end leaves the state as it is. The order of work within a step is the model's choice (log entry 6). (R87,
R102.) -/
def Obligations.SteadyStepEndChangesNothing : Prop :=
  ∀ s : State, s.Steady → s.settle = s

/-- Whatever work waits, carrying a step to its end changes no setting, clock, power state, queued reply, assembler
state, pin, debouncer, host part of the release, baseline, measured zone, lens position or outstanding move, card
index entry, slot state, window or write job, link state, error counter, inbox pull or delivery count. (R51, R87,
R102, R112, R150, R167, R188, R190.) -/
def Obligations.StepEndLeavesAlone : Prop :=
  ∀ s : State,
    s.settle.settings = s.settings ∧ s.settle.sup = s.sup ∧ s.settle.pins = s.pins ∧ s.settle.pending = s.pending
    ∧ s.settle.link.replies = s.link.replies ∧ s.settle.link.assembler = s.link.assembler
    ∧ s.settle.link.errors = s.link.errors ∧ s.settle.link.discarded = s.link.discarded
    ∧ s.settle.link.resetDue = s.link.resetDue
    ∧ s.settle.cap.host = s.cap.host ∧ s.settle.cap.relHalf = s.cap.relHalf ∧ s.settle.cap.relFull = s.cap.relFull
    ∧ s.settle.cap.trigIn = s.cap.trigIn ∧ s.settle.cap.black = s.cap.black ∧ s.settle.cap.flashSync = s.cap.flashSync
    ∧ s.settle.foc.zones = s.foc.zones ∧ s.settle.foc.lens = s.foc.lens ∧ s.settle.foc.position = s.foc.position
    ∧ s.settle.foc.line = s.foc.line ∧ s.settle.foc.inFocusTime = s.foc.inFocusTime
    ∧ s.settle.sbm.cardIndex = s.sbm.cardIndex ∧ s.settle.sbm.addedCount = s.sbm.addedCount
    ∧ (∀ sl, (s.settle.slot sl).state = (s.slot sl).state ∧ (s.settle.slot sl).queue = (s.slot sl).queue
        ∧ (s.settle.slot sl).window = (s.slot sl).window ∧ (s.settle.slot sl).cursor = (s.slot sl).cursor)
    ∧ s.settle.tet.state = s.tet.state ∧ s.settle.tet.tec = s.tet.tec ∧ s.settle.tet.recErrors = s.tet.recErrors
    ∧ s.settle.tet.inbox = s.tet.inbox ∧ s.settle.tet.nextItem = s.tet.nextItem
    ∧ s.settle.tet.delivered = s.tet.delivered ∧ s.settle.tet.declined = s.tet.declined

/-- For every command and every state, exec answers a next state, neither a fault nor a refusal, and that state holds
the same waiting commands. The rules cited say so of the host commands; that an event with nothing running for it
answers its state (log entry 3) and that the queue is the sender's own (log entry 47) are the model's choices. (R209,
R213, R221, R223.) -/
def Obligations.EveryCommandAnswersANextState : Prop :=
  ∀ (c : Instr) (s : State), ∃ t, exec c s = .next t ∧ t.pending = s.pending

/-- When the part runs, no RESET is pending and fewer than eight replies are queued, every host command answers a next
state whose reply queue is the old one with one reply added at its newest end, whose KIND is the command's with the
highest bit set, whose TAG is the command's and whose BODY begins with a status of R223. (R221, R222, R223, R233.) -/
def Obligations.TakenCommandsAreAnsweredOnce : Prop :=
  ∀ (c : Instr) (s : State) (p : Nat × Nat × List Byte), s.Takes → Command.parts c = some p →
    ∃ (t : State) (status : Status) (rest : List Byte), exec c s = .next t
      ∧ t.link.replies = s.link.replies ++ [{ kind := p.1 + 128, tag := p.2.1, body := status.byte :: rest }]

/-- From every state whose reply queue holds at most 8 replies, whose report queue holds at most 64 records, whose
next sequence number is a 16-bit number and whose lost count is at most 65,535, every step leads to such a state.
(R222, R225.) -/
def Obligations.LinkStaysBounded : Prop :=
  ∀ s t : State, s.link.Bounded → step s = .next t → t.link.Bounded

/-- From every state whose working settings, stored image and running copy lie in the ranges the setting commands
clamp to, every step leads to such a state. (R39, R40, R59, R78, R79, R121, R122, R176, R192, R197, R208, R216.) -/
def Obligations.SettingsStayInRange : Prop :=
  ∀ s t : State, s.SettingsOk → step s = .next t → t.SettingsOk

/-- From every state in which the free list and the extent lists of all objects together hold each extent exactly once
(RING entries having no number and no rendition, and no recall being of a thumbnail), every step leads to such a
state. (R1, R2, R3, R5, R14, R147.) -/
def Obligations.ExtentsStayPartitioned : Prop :=
  ∀ s t : State, s.Partitioned → step s = .next t → t.Partitioned

/-- Every step leaves the count of elapsed microseconds as it is or raises it. Every host command, every frame
received on the command link and every event that is not the end of a timer or a supply reading leaves it as it is.
The count itself, which a tick on an empty queue raises by one, and its being carried to a timer's moment are the
model's choices (log entries 1 and 2). (R203, R205.) -/
def Obligations.ElapsedTimeNeverFalls : Prop :=
  (∀ s t : State, step s = .next t → s.sup.elapsed ≤ t.sup.elapsed)
  ∧ (∀ (c : Instr) (s t : State), (Command.parts c).isSome → exec c s = .next t → t.sup.elapsed = s.sup.elapsed)
  ∧ (∀ (c : Instr) (s t : State), exec c s = .next t →
    match c with
    | .resetPendingTimeout _ | .supplyReading _ | .wakeEnd | .settingsWriteEnd _ | .warmupEnd | .liveFrame _ | .debounceRecognized _
    | .flashWaitExpiry | .flashPulseStart | .flashPulseEnd | .frameOpportunity | .exposureEnd | .readoutEnd _ _ | .lensAnswerTimeout
    | .lostTimerExpiry | .focusWaitExpiry | .inFocusAgeExpiry | .thumbPassEnd | .renderPassEnd | .mountTimeout _ | .beaconLoss
    | .offerTimeout | .ackTimeout | .deadlineExpiry _ => s.sup.elapsed ≤ t.sup.elapsed
    | _ => t.sup.elapsed = s.sup.elapsed)

/-- For every well-formed host command, with every field at every value its width admits and an enumerated field
outside its set written 0xFF, reading the KIND, TAG and BODY it is written as gives that command. The 0xFF, the widths
of fields with no stated range and the reading of presence bytes are the model's choices (log entries 9, 10 and 11).
(R221, R223, R224, R233.) -/
def Obligations.DecodeReadsTheEncodedCommand : Prop :=
  ∀ (c : Instr) (p : Nat × Nat × List Byte), c.wf = true → Command.parts c = some p → decodeCommand p.1 p.2.1 p.2.2 = .command c

/-- When the assembler is in FRAME and the frame of a well-formed host command completes, the part does exactly what
that command does with the assembler in HUNT, and answers a next state. That a whole frame arrives as one command is
the model's choice (log entry 8). (R219, R220, R221, R224, R233.) -/
def Obligations.CompletedFrameRunsItsCommand : Prop :=
  ∀ (c : Instr) (bytes : List Byte) (s : State), c.wf = true → Command.frame c = some bytes → s.held = false →
    s.link.assembler = .frame →
    ∃ t, exec c { s with link := { s.link with assembler := .hunt } } = .next t ∧ exec (.frameComplete bytes) s = .next t

/-- A complete frame whose check does not match counts one CHECK error and has no other effect. A good frame whose
KIND is outside the catalogue is answered BAD_KIND with the KIND's highest bit set; one whose BODY the fields do not
use up is answered BAD_LENGTH. The assembler returns to HUNT. (R219, R220, R221, R223, R233.) -/
def Obligations.BadFramesAreJudged : Prop :=
  (∀ (bytes : List Byte) (s : State), s.held = false → s.link.assembler = .frame → leNat (bytes.take 2) ≤ 4096 →
      bytes.length = leNat (bytes.take 2) + 6 →
      le 2 (crc16 (bytes.take (bytes.length - 2))).toNat ≠ bytes.drop (bytes.length - 2) →
      exec (.frameComplete bytes) s
        = .next { s with link := { s.link with assembler := .hunt, errors := (s.link.errors + 1) % 4294967296, lastError := some .check } })
  ∧ (∀ (kind tag : Nat) (body : List Byte) (s : State), kind < 256 → tag < 256 → body.length ≤ 4096 → s.Takes →
      s.link.assembler = .frame → decodeCommand kind tag body = .badKind →
      exec (.frameComplete (frameBytes kind tag body)) s
        = .next { s with link := { s.link with
            assembler := .hunt, replies := s.link.replies ++ [{ kind := kind ||| 128, tag := tag, body := [0x10] }] } })
  ∧ (∀ (kind tag : Nat) (body : List Byte) (s : State), kind < 256 → tag < 256 → body.length ≤ 4096 → s.Takes →
      s.link.assembler = .frame → decodeCommand kind tag body = .badLength →
      exec (.frameComplete (frameBytes kind tag body)) s
        = .next { s with link := { s.link with
            assembler := .hunt, replies := s.link.replies ++ [{ kind := kind ||| 128, tag := tag, body := [0x11] }] } })

/-- When the part runs and a RESET is pending or the reply queue holds eight replies, every host command raises the
discarded count by one (wrapping at 32 bits) and has no other effect, not even a reply. (R221, R222, R231.) -/
def Obligations.DeafLinkDiscardsCommands : Prop :=
  ∀ (c : Instr) (s : State), (Command.parts c).isSome → s.held = false →
    (s.link.resetDue ≠ none ∨ 8 ≤ s.link.replies.length) →
    exec c s = .next { s with link := { s.link with discarded := (s.link.discarded + 1) % 4294967296 } }

/-- In DORMANT, with or without a wake running, every well-formed host command other than IDENTIFY, GET_STATUS and
SET_POWER has no effect beyond a reply with the status STATE alone. (R213, R221, R223.) -/
def Obligations.DormantRefusesCommands : Prop :=
  ∀ (c : Instr) (s : State) (p : Nat × Nat × List Byte), c.wf = true → Command.parts c = some p →
    p.1 ≠ 0x01 → p.1 ≠ 0x02 → p.1 ≠ 0x11 → s.Takes → s.sup.power = .dormant →
    exec c s = .next (s.pushReply (p.1 + 128) p.2.1 .state [])

/-- A taken host command that carries an enumerated value, a kind, an index or a presence byte outside its set (or a
group, or all-zero part, address in SET_TETHER) has no effect beyond a reply with the status BAD_VALUE alone. That a
presence byte outside its set is such a value is the model's choice (log entry 11), and so are the 0xFF a value
outside its set is written as (log entry 9) and that such a value is judged before any other refusal of the command
(log entry 51). (R28, R29, R39, R43, R78, R95, R122, R143, R192, R211, R223, R228.) -/
def Obligations.BadValuesChangeNothing : Prop :=
  ∀ (c : Instr) (s : State) (p : Nat × Nat × List Byte), c.wf = true → c.outside = true → Command.parts c = some p → s.Takes →
    (s.sup.power ≠ .dormant ∨ p.1 = 0x02 ∨ p.1 = 0x11) → s.Steady →
    exec c s = .next (s.pushReply (p.1 + 128) p.2.1 .badValue [])

/-- BROWNOUT_HOLD puts a running part in the hold with its power not lost, POWER_LOSS puts it there with its power
lost, and nothing else changes. In the hold every command other than SUPPLY_RECOVERED and POWER_LOSS leaves the whole
state but the pin levels as it is, and RPLY, both attention lines and FLASH_SYNC are low. That the levels of the pins
are followed in the hold is the model's choice (log entry 29). (R209, R222, R226.) -/
def Obligations.HoldFreezesAllButThePins : Prop :=
  (∀ (c : Instr) (s : State), s.sup.brownout ≠ none → (∀ mv, c ≠ .supplyRecovered mv) → c ≠ .powerLoss →
    ∃ q : Pins, exec c s = .next { s with pins := q })
  ∧ (∀ (s : State) (l : Line), s.sup.brownout ≠ none → s.rply = false ∧ s.attn l = false ∧ s.flashSync = false)
  ∧ (∀ s : State, s.sup.brownout = none → exec .brownoutHold s = .next { s with sup := { s.sup with brownout := some false } })
  ∧ (∀ s : State, exec .powerLoss s = .next { s with sup := { s.sup with brownout := some true } })

/-- At chip select falling the assembler enters HUNT and the oldest reply begins to shift out. At chip select rising a
frame in FRAME counts one INCOMPLETE error and the assembler is CLOSED from any state. A SYNC byte in HUNT begins a
frame. A LENGTH above 4,096 in FRAME counts one OVERSIZE error and the rest of the transaction is skipped. Nothing
else changes before the step's end. (R219, R220, R222.) -/
def Obligations.ChipSelectAndAssembler : Prop :=
  (∀ s : State, s.held = false → s.pins.chipSelect = true →
    exec .chipSelectFall s = .next ({ s with
      pins := { s.pins with chipSelect := false },
      link := { s.link with assembler := .hunt, shifting := !s.link.replies.isEmpty } }).settle)
  ∧ (∀ s : State, s.held = false → s.pins.chipSelect = false → s.link.assembler = .frame →
    exec .chipSelectRise s = .next ({ s with
      pins := { s.pins with chipSelect := true },
      link := { s.link with assembler := .closed, shifting := false, errors := (s.link.errors + 1) % 4294967296,
                            lastError := some .incomplete } }).settle)
  ∧ (∀ s : State, s.held = false → s.pins.chipSelect = false → s.link.assembler ≠ .frame →
    exec .chipSelectRise s = .next ({ s with
      pins := { s.pins with chipSelect := true }, link := { s.link with assembler := .closed, shifting := false } }).settle)
  ∧ (∀ s : State, s.held = false → s.link.assembler = .hunt →
    exec .syncByte s = .next ({ s with link := { s.link with assembler := .frame } }).settle)
  ∧ (∀ (s : State) (length : Nat), s.held = false → s.link.assembler = .frame → 4096 < length →
    exec (.lengthOversize length) s = .next ({ s with
      link := { s.link with assembler := .skip, errors := (s.link.errors + 1) % 4294967296, lastError := some .oversize } }).settle)

/-- From the fall of chip select the part shifts out the frame of the oldest reply, byte by byte from 0xA5, its
LENGTH, KIND, TAG, BODY and CHECK, with 0x00 after its last byte; with no reply to shift out it shifts out 0x00. When
that reply has been read it leaves the queue and no other reply is shifted out. When it was the last one queued and a
RESET is pending, the COMMAND reset begins, with POWER_LEVEL raised when the first reading is below the LOW threshold.
(R206, R207, R220, R222, R231, R233.) -/
def Obligations.RepliesAreReadOldestFirst : Prop :=
  (∀ (s : State) (reading : Nat), s.held = false → s.link.shifting = true → s.link.resetDue = none →
    exec (.replyRead reading) s
      = .next ({ s with link := { s.link with replies := s.link.replies.drop 1, shifting := false } }).settle)
  ∧ (∀ (s : State) (reading : Nat), s.held = false → s.link.shifting = true → s.link.resetDue ≠ none → s.link.replies.length = 1 →
    s.sup.store.atReset.settings.low ≤ reading →
    exec (.replyRead reading) s = .next (s.afterReset .command reading))
  ∧ (∀ (s : State) (reading : Nat), s.held = false → s.link.shifting = true → s.link.resetDue ≠ none → s.link.replies.length = 1 →
    reading < s.sup.store.atReset.settings.low →
    exec (.replyRead reading) s = .next ((s.afterReset .command reading).raise .powerLevel
      (powerFields (s.afterReset .command reading) none)))
  ∧ (∀ (s : State) (r : Reply) (rs : List Reply), s.held = false → s.link.shifting = true → s.link.replies = r :: rs →
    let checked := le 2 r.body.length ++ le 1 r.kind ++ le 1 r.tag ++ r.body
    let frame := [0xA5] ++ checked ++ le 2 (crc16 checked).toNat
    frame.length = r.body.length + 7 ∧ (∀ i, i < frame.length → frame[i]? = some (s.shiftOut i))
      ∧ ∀ i, frame.length ≤ i → s.shiftOut i = 0)
  ∧ (∀ (s : State) (i : Nat), (s.link.shifting = false ∨ s.link.replies = []) → s.shiftOut i = 0)

/-- A PIN reset, the timeout of a pending RESET and the end of a brown-out hold lead to the reset state with their
cause, the stored settings (the factory ones when the store fails its check, as it does after a write cut short), chip
select and the release lines as the pins have them, the time base at 0 but for a COMMAND reset, and the first reading
judged without margin. Below the LOW threshold POWER_LEVEL is raised as well. The store passes its check when it holds
an image whose CRC-32 is the one stored beside it; the bytes of an image are free (log entry 15). The pending timeout
carries the clock to its moment (log entry 2). (R36, R66, R203, R206, R207, R209, R215, R216, R231, R232.) -/
def Obligations.ResetsLeaveTheResetState : Prop :=
  (∀ (s : State) (cause : ResetCause) (reading : Nat),
    s.afterReset cause reading =
      { State.reset with
        pending := s.pending, pins := s.pins, link := Link.reset s.pins, cap := Cap.reset s.pins s.sup.elapsed,
        settings := s.sup.store.atReset.settings,
        sup := { timeBase := if cause = .command then s.sup.timeBase else 0, elapsed := s.sup.elapsed, reading := reading,
                 readingDue := s.sup.elapsed + 1000,
                 level := firstLevel s.sup.store.atReset.settings.low s.sup.store.atReset.settings.critical reading,
                 power := .active, wake := none, cause := cause, defaulted := s.sup.store.atReset.mark == .failing,
                 brownout := none, store := s.sup.store.atReset } })
  ∧ (∀ (s : State) (reading : Nat), s.held = false → s.sup.store.atReset.settings.low ≤ reading →
    exec (.pinReset reading) s = .next (s.afterReset .pin reading))
  ∧ (∀ (s : State) (reading : Nat), s.held = false → reading < s.sup.store.atReset.settings.low →
    exec (.pinReset reading) s = .next ((s.afterReset .pin reading).raise .powerLevel
      (powerFields (s.afterReset .pin reading) none)))
  ∧ (∀ (s : State) (due reading : Nat), s.held = false → s.link.resetDue = some due → s.sup.store.atReset.settings.low ≤ reading →
    exec (.resetPendingTimeout reading) s = .next ((s.carryTo due).afterReset .command reading))
  ∧ (∀ (s : State) (due reading : Nat), s.held = false → s.link.resetDue = some due → reading < s.sup.store.atReset.settings.low →
    let x := (s.carryTo due).afterReset .command reading
    exec (.resetPendingTimeout reading) s = .next (x.raise .powerLevel (powerFields x none)))
  ∧ (∀ st : Store, (st.atReset.mark = .valid ∧ st.atReset.settings = st.image.getD Settings.factory
        ∧ ∃ g, st.image = some g ∧ crc32 (Config.imageBytes g) = st.crc)
      ∨ (st.atReset.mark = .failing ∧ st.atReset.settings = Settings.factory
        ∧ ∀ g, st.image = some g → crc32 (Config.imageBytes g) ≠ st.crc))
  ∧ (∀ (s : State) (lost : Bool) (reading : Nat), s.sup.brownout = some lost → s.sup.store.atReset.settings.low ≤ reading →
    exec (.supplyRecovered reading) s = .next (s.afterReset (if lost then .powerOn else .brownout) reading))
  ∧ (∀ (s : State) (lost : Bool) (reading : Nat), s.sup.brownout = some lost → reading < s.sup.store.atReset.settings.low →
    let x := s.afterReset (if lost then .powerOn else .brownout) reading
    exec (.supplyRecovered reading) s = .next (x.raise .powerLevel (powerFields x none)))

/-- In every power state a taken IDENTIFY answers OK with the vendor name Merosta, the part name ZP-614, the hardware
revision 1, the command set version 1, the greatest BODY 4,096, the 8 replies and 64 records of the queues, the last
reset cause, whether the settings were defaulted, the time base and the part's Ethernet address, and changes nothing
else. A frame of its KIND with any field is answered BAD_LENGTH. That the hardware revision, the command set version
and the count of each text take 1 byte is the model's reading (log entry 10). (R221, R224, R229.) -/
def Obligations.IdentifyIsTakenInEveryPowerState : Prop :=
  (∀ (s : State) (tag : Nat), s.Takes → s.Steady →
    exec (.identify tag) s = .next (s.pushReply 0x81 tag .ok
      ([7, 0x4D, 0x65, 0x72, 0x6F, 0x73, 0x74, 0x61] ++ [6, 0x5A, 0x50, 0x2D, 0x36, 0x31, 0x34] ++ [1] ++ [1] ++ [0x00, 0x10]
        ++ [8] ++ [64] ++ code ResetCause.all s.sup.cause ++ flag s.sup.defaulted ++ le 8 s.sup.timeBase
        ++ be 6 s.settings.tether.part.toNat)))
  ∧ (∀ (tag : Nat) (body : List Byte), decodeCommand 0x01 tag body = if body = [] then .command (.identify tag) else .badLength)

/-- Taken with no work waiting, GET_STATUS, LIST_SHOTS, READ_SHOT, READ_THUMB, READ_CARD_INDEX and READ_QUEUE only add
their reply. READ_SHOT gives the record of the committed entry of the number and READ_THUMB the run of its thumbnail;
with no such entry both answer NO_SHOT, and READ_THUMB of an absent thumbnail, or of a shot under a deletion, is
STATE. The width of the thumbnail's width and height in the reply is the model's choice (log entry 10). (R30, R32,
R33, R34, R35, R196, R230.) -/
def Obligations.ReadOnlyCommandsAnswerAlone : Prop :=
  (∀ (s : State) (tag : Nat) (parts : List StatusPart), s.Takes → s.Steady → parts.length ≤ 9 →
    exec (.getStatus tag (parts.map some)) s = .next (s.pushReply 0x82 tag .ok (s.statusBytes parts)))
  ∧ (∀ (s : State) (tag start count : Nat), s.Awake → s.Steady → 1 ≤ count → count ≤ 32 →
    exec (.listShots tag start count) s = .next (s.pushReply 0xB0 tag .ok
      (listOf 1 id (((s.committedNumbers.filter fun m => start ≤ m).take count).filterMap s.summary)
        ++ flag (count < (s.committedNumbers.filter fun m => start ≤ m).length) ++ le 2 s.sbm.freeCount
        ++ le 1 s.sbm.freeEntries ++ le 1 s.sbm.ringEntries)))
  ∧ (∀ (s : State) (tag n i : Nat) (sh : Shot), s.Awake → s.Steady → s.committed n = some (i, sh) →
    exec (.readShot tag n) s = .next (s.pushReply 0xB1 tag .ok (recordBytes i sh)))
  ∧ (∀ (s : State) (tag n : Nat), s.Awake → s.Steady → s.committed n = none →
    exec (.readShot tag n) s = .next (s.pushReply 0xB1 tag .noShot []))
  ∧ (∀ (s : State) (tag n i offset length : Nat) (sh : Shot) (th : Thumb), s.Awake → s.Steady → s.committed n = some (i, sh) →
    sh.deleting = false → sh.thumb = some th → 1 ≤ length → length ≤ 4000 → offset + length ≤ th.size →
    exec (.readThumb tag n offset length) s = .next (s.pushReply 0xB2 tag .ok
      (le 2 th.width ++ le 2 th.height ++ le 4 th.size ++ le 4 offset
        ++ listOf 2 (fun b => [b]) ((List.range length).map fun j => th.data.byteAt (offset + j)))))
  ∧ (∀ (s : State) (tag n offset length : Nat), s.Awake → s.Steady → s.committed n = none →
    exec (.readThumb tag n offset length) s = .next (s.pushReply 0xB2 tag .noShot []))
  ∧ (∀ (s : State) (tag n i offset length : Nat) (sh : Shot), s.Awake → s.Steady → s.committed n = some (i, sh) →
    (sh.thumb = none ∨ sh.deleting = true) →
    exec (.readThumb tag n offset length) s = .next (s.pushReply 0xB2 tag .state []))
  ∧ (∀ (s : State) (tag position count : Nat), s.Awake → s.Steady → 1 ≤ count → count ≤ 32 →
    exec (.readCardIndex tag position count) s = .next (s.pushReply 0xB7 tag .ok
      (le 2 s.sbm.cardIndex.length ++ le 4 s.sbm.addedCount
        ++ listOf 1 IndexEntry.bytes ((s.sbm.cardIndex.drop position).take count))))
  ∧ (∀ (s : State) (tag position count : Nat), s.Awake → s.Steady → 1 ≤ count → count ≤ 32 →
    exec (.readQueue tag position count) s = .next (s.pushReply 0xD4 tag .ok
      (listOf 1 Item.bytes ((s.tet.queueOrder.drop position).take count) ++ le 1 s.tet.items.length ++ s.tet.stateCounts
        ++ le 1 s.settings.tether.urgentLevel ++ le 8 s.sup.timeBase)))

/-- For every list of parts asked for, the status byte and the values of the reply together are at most 4,096 bytes;
the parts included are a first stretch of the parts asked for in the order of R230; and if one is omitted, the next
one would not have fitted. (R219, R230.) -/
def Obligations.StatusPartsFitTheBody : Prop :=
  ∀ (s : State) (asked : List StatusPart),
    1 + (s.statusBytes asked).length ≤ 4096
    ∧ ∃ k, let wanted := StatusPart.all.filter fun p => asked.isEmpty || asked.contains p
        s.statusBytes asked = listOf 1 (code StatusPart.all) (wanted.take k) ++ listOf 1 (code StatusPart.all) (wanted.drop k)
          ++ (wanted.take k).flatMap s.part
        ∧ (∀ p, (wanted.drop k).head? = some p →
            4096 < 3 + wanted.length + ((wanted.take k).flatMap s.part).length + (s.part p).length)

/-- A taken READ_REPORTS whose count is 1 to 64 answers OK with the lost count, the number of records taken, the
number left and the records; it takes a first stretch of the queued records of the selector's lines, no more than the
count and no more than fill the 4,096-byte body; it stops short only at a record that does not fit; the records left
stay in order, those of other lines among them; and the lost count is cleared. (R225, R227, R234.) -/
def Obligations.ReadReportsTakesTheOldestThatFit : Prop :=
  ∀ (s : State) (tag count : Nat) (sel : LineSel), s.Awake → s.Steady → 1 ≤ count → count ≤ 64 →
    ∃ taken left : List Record,
      exec (.readReports tag count (some sel)) s
        = .next (({ s with link := { s.link with reports := left, lost := 0 } }).pushReply 0x83 tag .ok
            (le 2 s.link.lost ++ le 1 taken.length ++ le 1 left.length ++ taken.flatMap Record.bytes))
      ∧ taken = (s.link.reports.filter fun r => sel.names r.line).take taken.length
      ∧ taken.length ≤ count ∧ 5 + (taken.flatMap Record.bytes).length ≤ 4096
      ∧ (taken.length < count → ∀ r, (s.link.reports.filter fun r => sel.names r.line)[taken.length]? = some r →
          4096 < 5 + (taken.flatMap Record.bytes).length + r.bytes.length)
      ∧ left.Sublist s.link.reports
      ∧ (left.filter fun r => sel.names r.line) = (s.link.reports.filter fun r => sel.names r.line).drop taken.length
      ∧ (left.filter fun r => !sel.names r.line) = s.link.reports.filter fun r => !sel.names r.line

/-- A taken SET_ROUTES sets each kind to the route of its last pair and gives the whole table; SET_SYNC,
SET_SEND_RULE, SET_LOOK and SET_CURVE put the clamped values in their place and give them, with OK, or OK_CLAMPED when
one was replaced. No other state changes before the step's end. That SET_SEND_RULE gives its index and values under OK
too is the model's reading (log entry 38); that the table SET_ROUTES gives is a count byte and the 28 routes in the
order of their codes, without the kinds, is the model's choice (log entry 58). (R59, R121, R122, R192, R228.) -/
def Obligations.SettingCommandsReplaceTheirSettings : Prop :=
  (∀ (s : State) (tag : Nat) (pairs : List (ReportKind × Route)), s.Awake → 1 ≤ pairs.length → pairs.length ≤ 28 →
    let routes := pairs.foldl (fun t p => t.set (p.1.number - 1) p.2) s.settings.routes
    exec (.setRoutes tag (pairs.map fun p => (some p.1, some p.2))) s
      = .next (({ s with settings := { s.settings with routes := routes } }).settle.pushReply 0x84 tag .ok
          (listOf 1 (code Route.all) routes)))
  ∧ (∀ (s : State) (tag : Nat) (a : SyncArgs), s.Awake →
    let g : SyncSettings := { period := max 1 (min 16 a.period), mask := a.mask, delay := min 100000 a.delay,
                              duration := max 1 (min 100000 a.duration), wait := min 1000 a.wait }
    exec (.setSync tag a) s
      = .next (({ s with settings := { s.settings with sync := g } }).settle.pushReply 0xA1 tag
          (if g = SyncSettings.mk a.period a.mask a.delay a.duration a.wait then .ok else .okClamped)
          (le 1 g.period ++ le 2 g.mask.toNat ++ le 4 g.delay ++ le 4 g.duration ++ le 2 g.wait)))
  ∧ (∀ (s : State) (tag index : Nat) (m : RuleMatch) (k : Pict) (priority : Nat) (o : Option Nat) (p : Policy), s.Awake → index < 2 →
    let r : SendRule := { matching := m, kind := k, priority := min 31 priority,
                          offset := o.map fun ms => max 1 (min 3600000 ms), policy := p }
    exec (.setSendRule tag index { matching := some m, kind := some k, priority := priority, offset := some o, policy := some p }) s
      = .next (({ s with settings := if index = 0 then { s.settings with rule0 := r } else { s.settings with rule1 := r } }).settle.pushReply
          0xD1 tag (if r = SendRule.mk m k priority o p then .ok else .okClamped) (le 1 index ++ r.bytes)))
  ∧ (∀ (s : State) (tag slot : Nat) (wb : WbMode) (gR gG gB curve : Nat) (scale : Scale) (auto select : Bool), s.Awake → slot < 8 →
    curve < 4 →
    let l : Look := { wb := wb, gains := ⟨max 512 (min 8191 gR), max 512 (min 8191 gG), max 512 (min 8191 gB)⟩, curve := curve,
                      scale := scale, auto := auto }
    let current := if select then slot else s.settings.currentLook
    exec (.setLook tag slot { wb := some wb, gR := gR, gG := gG, gB := gB, curve := curve, scale := some scale, auto := some auto,
                              select := some select }) s
      = .next (({ s with settings := { s.settings with looks := s.settings.looks.set slot l, currentLook := current } }).settle.pushReply
          0xC0 tag (if l.gains = Gains.mk gR gG gB then .ok else .okClamped) (le 1 slot ++ l.bytes ++ le 1 current)))
  ∧ (∀ (s : State) (tag slot : Nat) (points : List Nat), s.Awake → slot < 4 → points.length = 17 →
    exec (.setCurve tag slot points) s
      = .next (({ s with settings := { s.settings with curves := s.settings.curves.set slot (points.map (min 255)) } }).settle.pushReply
          0xC1 tag (if points.map (min 255) = points then .ok else .okClamped)
          (le 1 slot ++ listOf 1 (le 1) (points.map (min 255)))))

/-- After a taken SET_CAPTURE, SET_AF, SET_TETHER, SET_CARD_MODE or SET_THRESHOLDS with its enumerations inside their
sets, the working settings are the old ones with that group replaced by the values used, and one reply gives those
values. A new station address empties the inbox; new frame settings clear both error counters, the rejoin count, the
last beacon and the station's status; auto-rejoin OFF clears the rejoin count. New thresholds judge the level again
from the last reading. That SET_TETHER gives all its values under OK too, and their order, are the model's reading
(log entries 34 and 38). (R39, R41, R78, R143, R176, R177, R197, R206, R208.) -/
def Obligations.SettingCommandsActAtOnce : Prop :=
  (∀ (s : State) (tag : Nat) (a : CaptureArgs) (depth : Depth) (drive : DriveMode) (trigger : Bool), s.Awake →
    a.depth = some depth → a.drive = some drive → a.trigger = some trigger →
    ∃ t status, exec (.setCapture tag a) s = .next t
      ∧ t.settings = { s.settings with capture := a.used depth drive trigger } ∧ t.sup = s.sup
      ∧ t.link.replies = s.link.replies ++ [{
          kind := 0xA0, tag := tag,
          body := Status.byte status :: (a.used depth drive trigger).bytes }]
      ∧ (status = .ok ↔ a.used depth drive trigger = a.sent depth drive trigger))
  ∧ (∀ (s : State) (tag : Nat) (a : AfArgs) (mode : AfMode), s.Awake → a.mode = some mode →
    ∃ t status, exec (.setAf tag a) s = .next t ∧ t.settings = { s.settings with af := a.used mode } ∧ t.sup = s.sup
      ∧ t.foc.zones = s.foc.zones ∧ t.foc.lens = s.foc.lens ∧ t.foc.position = s.foc.position
      ∧ t.link.replies = s.link.replies ++ [{ kind := 0xA8, tag := tag, body := Status.byte status :: (a.used mode).bytes }]
      ∧ (status = .ok ↔ a.used mode = a.sent mode))
  ∧ (∀ (s : State) (tag : Nat) (a : TetherArgs) (j l th r w : Bool), s.Awake → a.badAddress = false → a.autoRejoin = some j →
    a.pullList = some l → a.pullThumb = some th → a.pullRendition = some r → a.pullRaw = some w →
    ∃ t status, exec (.setTether tag a) s = .next t ∧ t.settings = { s.settings with tether := a.used j l th r w } ∧ t.sup = s.sup
      ∧ (a.station ≠ s.settings.tether.station → t.tet.inbox = [])
      ∧ (j = false → t.tet.rejoin = 0)
      ∧ ((a.used j l th r w).sameLink s.settings.tether = false →
          t.tet.tec = 0 ∧ t.tet.recErrors = 0 ∧ t.tet.rejoin = 0 ∧ t.tet.heard = false ∧ t.tet.lastBeacon = none
          ∧ t.tet.status = none ∧ t.tet.lossDue = none ∧ (t.tet.carrier = true → t.tet.state = .seeking))
      ∧ t.link.replies = s.link.replies ++ [{
          kind := 0xD0, tag := tag,
          body := Status.byte status :: ((a.used j l th r w).linkBytes ++ (a.used j l th r w).queueBytes) }]
      ∧ (status = .ok ↔ a.used j l th r w = a.sent j l th r w))
  ∧ (∀ (s : State) (tag : Nat) (m : CardMode) (c : CardContent), s.Awake →
    ∃ t, exec (.setCardMode tag (some m) (some c)) s = .next t
      ∧ t.settings = { s.settings with cardMode := m, cardContent := c } ∧ t.sup = s.sup
      ∧ t.link.replies = s.link.replies ++ [{ kind := 0xC8, tag := tag, body := [Status.byte .ok] }])
  ∧ (∀ (s : State) (tag low critical : Nat), s.Awake →
    let l := max 6000 (min 7600 low)
    let c := max 5900 (min (l - 100) critical)
    ∃ t, exec (.setThresholds tag low critical) s = .next t
      ∧ t.settings = { s.settings with low := l, critical := c }
      ∧ t.sup = { s.sup with level := levelAfter l c s.sup.level s.sup.reading }
      ∧ t.link.replies = s.link.replies ++ [{
          kind := 0x92, tag := tag,
          body := Status.byte (if l = low ∧ c = critical then .ok else .okClamped) :: (le 2 l ++ le 2 c) }])

/-- For SET_CAPTURE, SET_SYNC, SET_AF, SET_SEND_RULE, SET_TETHER and SET_LENS, whatever the fields sent, the values
used lie in the ranges of their rules, and fields that already lie there are used unchanged. (R39, R40, R59, R78, R79,
R95, R176, R192, R197.) -/
def Obligations.ClampsLandInRangeAndKeepWhatFits : Prop :=
  (∀ (a : CaptureArgs) (d : Depth) (m : DriveMode) (t : Bool),
    (a.used d m t).Ok ∧ ((a.sent d m t).Ok → a.used d m t = a.sent d m t))
  ∧ (∀ a : SyncArgs, a.used.Ok ∧ (a.sent.Ok → a.used = a.sent))
  ∧ (∀ (a : AfArgs) (m : AfMode), (a.used m).Ok ∧ ((a.sent m).Ok → a.used m = a.sent m))
  ∧ (∀ r : SendRule, r.used.Ok ∧ (r.Ok → r.used = r))
  ∧ (∀ (a : TetherArgs) (j l th r w : Bool), a.wf = true → a.badAddress = false →
    (a.used j l th r w).Ok ∧ ((a.sent j l th r w).Ok → a.used j l th r w = a.sent j l th r w))
  ∧ (∀ a : LensArgs, a.wf = true →
    a.used.1.near < a.used.1.far ∧ a.used.1.far ≤ 65535 ∧ 1 ≤ a.used.1.gain ∧ a.used.1.maxPredict ≤ 10000
    ∧ a.used.1.near ≤ a.used.2 ∧ a.used.2 ≤ a.used.1.far
    ∧ (a.near < a.far → 1 ≤ a.gain → a.maxPredict ≤ 10000 → a.near ≤ a.position → a.position ≤ a.far → a.used = a.sent))

/-- SET_CAPTURE's crop window is made by rounding left and top down to a multiple of 16, clamping width to 1,024 to
6,000 and height to 768 to 4,000 and rounding each down to a multiple of 16, then reducing left and top so that the
window lies within 6,000 by 4,000. It starts on a quad boundary and holds (width / 2) x (height / 2) whole quads. The
raw size is width x height x depth / 8 bytes and the extent count that size divided by 1,048,576, rounded up:
36,000,000 bytes and 35 extents, 42,000,000 and 41, 1,179,648 and 2, 1,376,256 and 2. (R40.) -/
def Obligations.CropWindowIsClampedInThreeSteps : Prop :=
  (∀ (a : CaptureArgs) (d : Depth) (m : DriveMode) (t : Bool),
    let left := a.left / 16 * 16
    let top := a.top / 16 * 16
    let width := max 1024 (min 6000 a.width) / 16 * 16
    let height := max 768 (min 4000 a.height) / 16 * 16
    let c := (a.used d m t).crop
    c = ⟨if 6000 - width < left then 6000 - width else left, if 4000 - height < top then 4000 - height else top, width, height⟩
    ∧ c.left % 2 = 0 ∧ c.top % 2 = 0 ∧ c.width % 2 = 0 ∧ c.height % 2 = 0 ∧ c.left + c.width ≤ 6000 ∧ c.top + c.height ≤ 4000
    ∧ 4 * quadCount c.width c.height = c.width * c.height)
  ∧ (∀ (d : Depth) (c : Crop), rawSize d c = c.width * c.height * d.bits / 8)
  ∧ (∀ size, 1048576 * extentsFor size < size + 1048576 ∧ size ≤ 1048576 * extentsFor size)
  ∧ rawSize .d12 ⟨0, 0, 6000, 4000⟩ = 36000000 ∧ extentsFor 36000000 = 35
  ∧ rawSize .d14 ⟨0, 0, 6000, 4000⟩ = 42000000 ∧ extentsFor 42000000 = 41
  ∧ rawSize .d12 ⟨0, 0, 1024, 768⟩ = 1179648 ∧ extentsFor 1179648 = 2
  ∧ rawSize .d14 ⟨0, 0, 1024, 768⟩ = 1376256 ∧ extentsFor 1376256 = 2

/-- A taken RESET answers ACCEPTED and is pending for 100,000 us. A taken SAVE_SETTINGS with no write running copies
the working settings, marks the store WRITING, with no whole image, for 180,000 us and answers OK; with one running it
answers BUSY and nothing changes. At the end of the write the copy becomes the image, with its CRC-32 beside it, and
the store VALID when the image reads back as written, and otherwise the store is FAILING with no image; SETTINGS_SAVED
is raised either way. The end of the write carries the clock to its moment (log entry 2); the image's bytes are free
and its reading back is an operand (log entry 15). (R216, R217, R231.) -/
def Obligations.ResetAndSaveAreAccepted : Prop :=
  (∀ (s : State) (tag : Nat), s.Awake →
    exec (.reset tag) s = .next (({ s with link := { s.link with resetDue := some (s.sup.elapsed + 100000) } }).settle.pushReply
      0x85 tag .accepted []))
  ∧ (∀ (s : State) (tag : Nat), s.Awake → s.sup.store.mark ≠ .writing →
    exec (.saveSettings tag) s = .next (({ s with sup := { s.sup with store :=
      { mark := .writing, image := none, crc := s.sup.store.crc, copy := some s.settings,
        writeDue := some (s.sup.elapsed + 180000) } } }).settle.pushReply
      0x93 tag .ok []))
  ∧ (∀ (s : State) (tag : Nat), s.Awake → s.Steady → s.sup.store.mark = .writing →
    exec (.saveSettings tag) s = .next (s.pushReply 0x93 tag .busy []))
  ∧ (∀ (s : State) (due : Nat) (g : Settings), s.held = false → s.sup.store.writeDue = some due → s.sup.store.copy = some g →
    let x := s.carryTo due
    exec (.settingsWriteEnd true) s = .next ((({ x with sup := { x.sup with store :=
      { mark := .valid, image := some g, crc := crc32 (Config.imageBytes g), copy := none, writeDue := none } } }).raise .settingsSaved
      (0 :: le 8 x.sup.timeBase)).settle))
  ∧ (∀ (s : State) (due : Nat), s.held = false → s.sup.store.writeDue = some due →
    let x := s.carryTo due
    exec (.settingsWriteEnd false) s = .next ((({ x with sup := { x.sup with store :=
      { mark := .failing, image := none, crc := s.sup.store.crc, copy := none, writeDue := none } } }).raise .settingsSaved
      (1 :: le 8 x.sup.timeBase)).settle))

/-- A taken SET_TIME at or above every kept exposure start time sets the time base and answers OK with the value
before and after; with no lost timer and no deadline passed, nothing else changes before the step's end. Below any of
them it answers STATE and nothing changes. (R204, R205.) -/
def Obligations.SetTimeMovesTheTimeBase : Prop :=
  (∀ (s : State) (tag time : Nat), s.Awake → (∀ h ∈ s.heldTimes, h ≤ time) → s.foc.lostTime = none →
    (∀ x ∈ s.tet.items, ∀ d, x.deadline = some d → time < d) →
    exec (.setTime tag time) s = .next (({ s with sup := { s.sup with timeBase := time } }).settle.pushReply 0x90 tag .ok
      (le 8 s.sup.timeBase ++ le 8 time)))
  ∧ (∀ (s : State) (tag time h : Nat), s.Awake → s.Steady → h ∈ s.heldTimes → time < h →
    exec (.setTime tag time) s = .next (s.pushReply 0x90 tag .state []))

/-- A taken SET_POWER to the state in force changes no power state; ACTIVE and STANDBY change into each other at once;
DORMANT is entered with the DRAM off when no shot entry is in use and no write job, recall or item waits, and is
otherwise refused with STATE and the list of what bars it; in DORMANT, ACTIVE and STANDBY start a wake of 8,000 us
with the DRAM on, or retarget the running one, and DORMANT is BUSY while a wake runs. Each time one reply is added.
(R211, R212, R213, R214.) -/
def Obligations.SetPowerFollowsTheTable : Prop :=
  (∀ (s : State) (tag : Nat) (p : PowerState), s.Takes → s.Steady → s.sup.power = p → p ≠ .dormant →
    exec (.setPower tag (some p)) s = .next (s.pushReply 0x91 tag .ok []))
  ∧ (∀ (s : State) (tag : Nat), s.Takes → s.sup.power = .active →
    ∃ t, exec (.setPower tag (some .standby)) s = .next t ∧ t.sup = { s.sup with power := .standby }
      ∧ t.settings = s.settings ∧ t.sbm.dramOn = s.sbm.dramOn
      ∧ t.link.replies = s.link.replies ++ [{ kind := 0x91, tag := tag, body := [Status.byte .ok] }])
  ∧ (∀ (s : State) (tag : Nat), s.Takes → s.sup.power = .standby →
    ∃ t, exec (.setPower tag (some .active)) s = .next t ∧ t.sup = { s.sup with power := .active }
      ∧ t.settings = s.settings ∧ t.sbm.dramOn = s.sbm.dramOn
      ∧ t.link.replies = s.link.replies ++ [{ kind := 0x91, tag := tag, body := [Status.byte .ok] }])
  ∧ (∀ (s : State) (tag : Nat), s.Takes → s.sup.power ≠ .dormant → (∀ b, s.barred b = false) →
    ∃ t, exec (.setPower tag (some .dormant)) s = .next t ∧ t.sup = { s.sup with power := .dormant }
      ∧ t.settings = s.settings ∧ t.sbm.dramOn = false
      ∧ t.link.replies = s.link.replies ++ [{ kind := 0x91, tag := tag, body := [Status.byte .ok] }])
  ∧ (∀ (s : State) (tag : Nat) (b : DormantBar), s.Takes → s.Steady → s.sup.power ≠ .dormant → s.barred b = true →
    exec (.setPower tag (some .dormant)) s = .next (s.pushReply 0x91 tag .state (setOf DormantBar.all s.barred)))
  ∧ (∀ (s : State) (tag : Nat) (p : PowerState), s.Takes → s.sup.power = .dormant → p ≠ .dormant → s.sup.wake = none →
    exec (.setPower tag (some p)) s = .next (({ s with
      sup := { s.sup with wake := some { target := p, cause := .command, endDue := s.sup.elapsed + 8000 } },
      sbm := { s.sbm with dramOn := true } }).settle.pushReply 0x91 tag .ok []))
  ∧ (∀ (s : State) (tag : Nat) (p : PowerState) (w : Wake), s.Takes → s.sup.power = .dormant → p ≠ .dormant → s.sup.wake = some w →
    exec (.setPower tag (some p)) s = .next (({ s with
      sup := { s.sup with wake := some { target := p, cause := .command, endDue := w.endDue } } }).settle.pushReply 0x91 tag .ok []))
  ∧ (∀ (s : State) (tag : Nat), s.Takes → s.Steady → s.sup.power = .dormant →
    exec (.setPower tag (some .dormant)) s
      = .next (s.pushReply 0x91 tag (if s.sup.wake.isSome then .busy else .ok) []))

/-- WAKE_END carries the clock to the wake's end, makes its target the power state and removes the wake; settings,
queued replies and the settings store are untouched. A press on the lines recognized in DORMANT starts a wake of 8,000
us to ACTIVE with the cause RELEASE, or retargets the running one, which keeps its end; nothing else of the supervisor
changes. Both rows carry the clock to their moment (log entry 2), and every recognized high level of REL_HALF or
REL_FULL counts as a press on the lines (log entry 49). (R45, R210, R214.) -/
def Obligations.WakeEndTakesTheTarget : Prop :=
  (∀ (s : State) (w : Wake), s.held = false → s.sup.wake = some w →
    ∃ t, exec .wakeEnd s = .next t ∧ t.sup = { (s.carryTo w.endDue).sup with wake := none, power := w.target }
      ∧ t.settings = s.settings ∧ t.link.replies = s.link.replies)
  ∧ (∀ (s : State) (l : InputLine) (since : Nat), s.held = false → s.sup.power = .dormant → l ≠ .trigIn →
    (s.cap.debouncer l).recognized = false →
    (s.cap.debouncer l).since = some since →
    let x := s.carryTo (since + s.settings.capture.debounce)
    ∃ t, exec (.debounceRecognized l) s = .next t ∧ t.settings = s.settings
      ∧ t.sup = { x.sup with wake := some { target := .active, cause := .release,
                                            endDue := match s.sup.wake with
                                              | some w => w.endDue
                                              | none => x.sup.elapsed + 8000 } }
      ∧ (s.sup.wake = none → t.sbm.dramOn = true))

/-- SUPPLY_READING carries the clock to the reading's moment, keeps the reading, sets the next 1,000 us later and
makes the level what the table gives; the settings and queued replies are untouched. With C at most L - 100, the level
after a reading is the table's: from NORMAL, below C is CRITICAL, below L LOW, otherwise NORMAL; from LOW, below C
CRITICAL, below L + 100 LOW, otherwise NORMAL; from CRITICAL, below L it stays CRITICAL below C + 100 and is otherwise
LOW, from L to below L + 100 it is LOW, and otherwise NORMAL. The first reading after a reset is judged without the
margin. The row carries the clock to its moment (log entry 2). (R206, R207.) -/
def Obligations.SupplyReadingSetsTheLevel : Prop :=
  (∀ (s : State) (mv : Nat), s.held = false →
    let x := s.carryTo s.sup.readingDue
    ∃ t, exec (.supplyReading mv) s = .next t
      ∧ t.sup = { x.sup with reading := mv, readingDue := x.sup.elapsed + 1000,
                             level := levelAfter s.settings.low s.settings.critical s.sup.level mv }
      ∧ t.settings = s.settings ∧ t.link.replies = s.link.replies)
  ∧ (∀ low critical reading : Nat, critical + 100 ≤ low →
    (levelAfter low critical .normal reading = .critical ↔ reading < critical)
    ∧ (levelAfter low critical .normal reading = .low ↔ critical ≤ reading ∧ reading < low)
    ∧ (levelAfter low critical .normal reading = .normal ↔ low ≤ reading)
    ∧ (levelAfter low critical .low reading = .critical ↔ reading < critical)
    ∧ (levelAfter low critical .low reading = .low ↔ critical ≤ reading ∧ reading < low + 100)
    ∧ (levelAfter low critical .low reading = .normal ↔ low + 100 ≤ reading)
    ∧ (levelAfter low critical .critical reading = .critical ↔ reading < critical + 100)
    ∧ (levelAfter low critical .critical reading = .low ↔ critical + 100 ≤ reading ∧ reading < low + 100)
    ∧ (levelAfter low critical .critical reading = .normal ↔ low + 100 ≤ reading)
    ∧ (firstLevel low critical reading = .normal ↔ low ≤ reading)
    ∧ (firstLevel low critical reading = .low ↔ critical ≤ reading ∧ reading < low)
    ∧ (firstLevel low critical reading = .critical ↔ reading < critical))

/-- A report whose route is OFF leaves the state as it is. On LINE0 or LINE1 it takes the next sequence number, which
wraps at 16 bits; with fewer than 64 records queued a record of the kind, line, number, time base and fields joins at
the newest end, and otherwise the lost count rises by one up to 65,535. Nothing else changes. (R225, R228.) -/
def Obligations.RaisedReportsFollowTheirRoute : Prop :=
  (∀ (s : State) (k : ReportKind) (fs : List Byte), s.settings.routes[k.number - 1]? = some .off → s.raise k fs = s)
  ∧ (∀ (s : State) (k : ReportKind) (fs : List Byte) (l : Line), (s.settings.routes[k.number - 1]?).bind Route.line = some l →
    s.link.reports.length < 64 →
    s.raise k fs = { s with link := { s.link with
      nextSeq := (s.link.nextSeq + 1) % 65536,
      reports := s.link.reports ++ [{ kind := k, line := l, seq := s.link.nextSeq, time := s.sup.timeBase, fields := fs }] } })
  ∧ (∀ (s : State) (k : ReportKind) (fs : List Byte) (l : Line), (s.settings.routes[k.number - 1]?).bind Route.line = some l →
    64 ≤ s.link.reports.length →
    s.raise k fs = { s with link := { s.link with
      nextSeq := (s.link.nextSeq + 1) % 65536, lost := min 65535 (s.link.lost + 1) } })

/-- ATTN0 and ATTN1 are high exactly when the part is out of the brown-out hold and the report queue holds a record
whose line is LINE0 and LINE1; a report dropped for a full queue leaves both lines as they were; both are low after
every reset, before a first reading below the LOW threshold is reported, and in the hold. (R226.) -/
def Obligations.AttentionLinesFollowTheQueue : Prop :=
  (∀ s : State, s.held = false →
    ((s.attn .line0 = true ↔ ∃ r ∈ s.link.reports, r.line = .line0) ∧ (s.attn .line1 = true ↔ ∃ r ∈ s.link.reports, r.line = .line1)))
  ∧ (∀ (s : State) (k : ReportKind) (fs : List Byte) (l : Line), 64 ≤ s.link.reports.length → (s.raise k fs).attn l = s.attn l)
  ∧ (∀ (s : State) (cause : ResetCause) (reading : Nat) (l : Line), (s.afterReset cause reading).attn l = false)
  ∧ (∀ (s : State) (l : Line), s.sup.brownout ≠ none → s.attn l = false)

/-- A taken RELEASE sets the host's part to HALF, FULL or NONE and answers OK; HALF and FULL make the power state
ACTIVE from STANDBY. SET_SHOT_BASE with every entry FREE sets the next shot number to the value clamped to 1 to
4,294,967,295 and to one more than the highest number in the card index, and gives it; with an entry in use, or
4,294,967,295 in the index, it answers STATE and changes nothing. That the value is given under OK too is the model's
reading (log entry 38). (R7, R43, R45, R55.) -/
def Obligations.ReleaseAndShotBase : Prop :=
  (∀ (s : State) (tag : Nat) (a : ReleaseAction), s.Awake →
    ∃ t, exec (.release tag (some a)) s = .next t
      ∧ t.cap.host = (match a with | .half => HostRelease.half | .full => .full | .stop => .none)
      ∧ t.sup = { s.sup with power := if a = .stop then s.sup.power else .active }
      ∧ t.cap.relHalf = s.cap.relHalf ∧ t.cap.relFull = s.cap.relFull ∧ t.settings = s.settings
      ∧ t.link.replies = s.link.replies ++ [{ kind := 0xA2, tag := tag, body := [Status.byte .ok] }])
  ∧ (∀ (s : State) (tag number : Nat), s.Awake → (∀ e ∈ s.sbm.shots, e = none) → (∀ e ∈ s.sbm.cardIndex, e.shot < 4294967295) →
    let n := max (max 1 (min 4294967295 number)) (s.sbm.highestIndexed + 1)
    exec (.setShotBase tag number) s
      = .next ((({ s with sbm := { s.sbm with nextNumber := some n } }).notify .evaluate).settle.pushReply 0xA3 tag
          (if n = number then .ok else .okClamped) (le 4 n)))
  ∧ (∀ (s : State) (tag number : Nat), s.Awake → s.Steady →
    ((∃ e ∈ s.sbm.shots, e ≠ none) ∨ s.sbm.highestIndexed = 4294967295) →
    exec (.setShotBase tag number) s = .next (s.pushReply 0xA3 tag .state []))

/-- A line that takes a level other than the recognized one starts a candidate unless one waits, and its return
cancels it. A candidate is recognized one debounce time after it was first seen; that line's recognized level becomes
its opposite, and no other line's debouncer changes. FLASH_RDY is read as it stands, and its change has the pending
frame evaluated. A recognition carries the clock to its moment (log entry 2). (R42, R43, R51, R61.) -/
def Obligations.InputsAreDebounced : Prop :=
  (∀ (s : State) (l : InputLine) (high : Bool), s.held = false →
    ∃ t, exec (.lineLevelChange l high) s = .next t ∧ t.pins = s.pins.setLine l high ∧ t.settings = s.settings ∧ t.sup = s.sup
      ∧ (∀ m, m ≠ l → t.cap.debouncer m = s.cap.debouncer m)
      ∧ t.cap.debouncer l =
          if high = (s.cap.debouncer l).recognized then { recognized := high, since := none, atReset := false }
          else if (s.cap.debouncer l).since = none then
            { recognized := (s.cap.debouncer l).recognized, since := some s.sup.elapsed, atReset := false }
          else s.cap.debouncer l)
  ∧ (∀ (s : State) (l : InputLine) (since : Nat), s.held = false → (s.cap.debouncer l).since = some since →
    ∃ t, exec (.debounceRecognized l) s = .next t
      ∧ t.sup.elapsed = max s.sup.elapsed (since + s.settings.capture.debounce) ∧ t.settings = s.settings ∧ t.pins = s.pins
      ∧ (∀ m, m ≠ l → t.cap.debouncer m = s.cap.debouncer m)
      ∧ t.cap.debouncer l = { recognized := !(s.cap.debouncer l).recognized, since := none, atReset := false })
  ∧ (∀ (s : State) (high : Bool), s.held = false →
    exec (.flashReadyChange high) s = .next (({ s with pins := { s.pins with flashRdy := high } }).notify .evaluate).settle)

/-- Each timer's end carries the clock to its moment (log entry 2). WARMUP_END makes the sensor READY and starts a run
of live frames of 16,667 us; LIVE_FRAME replaces all 150 zone records by the measurements of its pupil lines at the
time base. A zone's best shift s0 of the 33 from -16 to 16 has the least sum of absolute differences over the 32
positions 16 to 47; of shifts that share it, it has the smallest magnitude, and of -k and +k it is -k. The edge flag
is set exactly at -16 and 16; the phase is 16 x s0, plus, away from the edge, the offset trunc(16 (a - c) / 2 (a - 2b
+ c)) clamped to -8 to 8, or 0 where the divisor is 0; it lies in -256 to 256, and the confidence is min(255,
floor(256 (Smean - Smin) / (Smean + 1))) with Smean the mean of the 33 rounded down. FLASH_WAIT_EXPIRY ends the
pending frame's flash wait and has it evaluated; the pulse raises FLASH_SYNC at its start and ends at its end. (R37,
R61, R69, R70, R71, R72, R73, R74, R76, R77.) -/
def Obligations.SensorAndFlashTimers : Prop :=
  (∀ (s : State) (due : Nat), s.held = false → s.cap.warmDue = some due →
    let x := s.carryTo due
    exec .warmupEnd s = .next (({ x with cap := { x.cap with
      sensor := .ready, warmDue := none, liveDue := some (max s.sup.elapsed due + 16667) } }).notify .evaluate).settle)
  ∧ (∀ (s : State) (due : Nat) (lines : List PupilLines), s.held = false → s.cap.liveDue = some due →
    ∃ t, exec (.liveFrame lines) s = .next t ∧ t.foc.zones = measureZones (s.carryTo due).sup.timeBase lines
      ∧ t.foc.zones.length = 150 ∧ t.foc.measureCount = (s.foc.measureCount + 1) % 4294967296 ∧ t.sup = (s.carryTo due).sup
      ∧ t.settings = s.settings ∧ t.cap.black = s.cap.black ∧ t.link.replies = s.link.replies)
  ∧ (∀ (t : Nat) (lines : List PupilLines), lines.length = 150 → measureZones t lines = lines.map (measureZone t))
  ∧ (∀ (t : Nat) (p : PupilLines),
    let S := fun s : Int => ((List.range 32).map fun j : Nat =>
      (((p.l.getD ((16 : Int) + j + s).toNat 0 : Nat) : Int) - (p.r.getD (16 + j) 0 : Nat)).natAbs).sum
    let mean := ((List.range 33).map fun k : Nat => S ((k : Int) - 16)).sum / 33
    ∃ s0 : Int, -16 ≤ s0 ∧ s0 ≤ 16
      ∧ (∀ s : Int, -16 ≤ s → s ≤ 16 → S s0 ≤ S s ∧ (S s = S s0 → s0.natAbs < s.natAbs ∨ (s0.natAbs = s.natAbs ∧ s0 ≤ s)))
      ∧ ((measureZone t p).edge = true ↔ s0 = -16 ∨ s0 = 16)
      ∧ ((s0 = -16 ∨ s0 = 16) → (measureZone t p).phase = 16 * s0)
      ∧ (s0 ≠ -16 → s0 ≠ 16 →
          let den : Int := S (s0 - 1) - 2 * S s0 + S (s0 + 1)
          (measureZone t p).phase
            = 16 * s0 + if den = 0 then 0 else max (-8) (min 8 (Int.tdiv (16 * ((S (s0 - 1) : Int) - S (s0 + 1))) (2 * den))))
      ∧ -256 ≤ (measureZone t p).phase ∧ (measureZone t p).phase ≤ 256
      ∧ (measureZone t p).confidence = min 255 (256 * (mean - S s0) / (mean + 1)) ∧ (measureZone t p).time = some t)
  ∧ (∀ (s : State) (f : Frame) (due : Nat), s.held = false → s.cap.frame = some f → f.flashWait = .running due →
    let x := s.carryTo due
    exec .flashWaitExpiry s
      = .next (({ x with cap := { x.cap with frame := some { f with flashWait := .expired } } }).notify .evaluate).settle)
  ∧ (∀ (s : State) (p : Pulse), s.held = false → s.cap.flashSync = false → s.cap.pulse = some p →
    let x := s.carryTo p.startDue
    exec .flashPulseStart s = .next ({ x with cap := { x.cap with flashSync := true } }).settle)
  ∧ (∀ (s : State) (p : Pulse), s.held = false → s.cap.flashSync = true → s.cap.pulse = some p →
    let x := s.carryTo p.endDue
    exec .flashPulseEnd s = .next ({ x with cap := { x.cap with flashSync := false, pulse := none } }).settle)

/-- FRAME_OPPORTUNITY makes the frame's opportunity come and has it evaluated. EXPOSURE_END puts the sensor in READOUT
with the readout time of the frame's depth and its EXPOSING entry in READOUT. OB_ROWS_END updates the black baseline
by R62 and keeps the OB mean and the baseline for the frame. READOUT_END, after the OB rows, measures the frame's
zones, frees the sensor (READY in ACTIVE power, otherwise OFF with every zone unmeasured), and writes the frame
statistics and the samples. The raw of a committed entry is then COMPLETE and card-bound without FILL, and its entry
BUFFERED; the raw of a ring entry is COMPLETE without FILL and its entry stays in RING; and a ring entry already
discarded becomes FREE. A raw's bytes hold the readout's samples in data order, the rows of the window from the top
and each from left to right, with R and G1 on a quad's first row and G2 and B on its second: the bits of each two
consecutive samples of 12 bits stand in three consecutive bytes, and those of each four of 14 bits in seven, every bit
once; a pass that reads those bytes back from a card works on the samples they hold. The order of the bits within such
a group is free, and that a group is the fewest samples that fill whole bytes is the model's choice (log entry 14).
The timers carry the clock to their moments (log entry 2); that FOC takes the lines before anything is evaluated and
that a readout ends after its OB rows are the model's choices (log entries 26 and 28). (R8, R9, R18, R23, R37, R38,
R50, R54, R62, R63, R76.) -/
def Obligations.FramePhasesFollowTheirTimers : Prop :=
  (∀ (s : State) (f : Frame), s.held = false → s.cap.frame = some f → f.reached = false →
    let x := s.carryTo f.opp
    exec .frameOpportunity s
      = .next (({ x with cap := { x.cap with frame := some { f with reached := true } } }).notify .evaluate).settle)
  ∧ (∀ (s : State) (f : Flight), s.held = false → s.cap.sensor = .exposing → s.cap.flight = some f →
    let x := s.carryTo f.exposureDue
    exec .exposureEnd s
      = .next ((({ x with cap := { x.cap with
          sensor := .readout,
          flight := some { f with readoutDue := some (max s.sup.elapsed f.exposureDue + f.depth.readout) } } }).mapShot f.entry
            fun sh => if sh.state = EntryState.exposing then { sh with state := .readout } else sh).settle))
  ∧ (∀ (s : State) (f : Flight) (samples : List Nat), s.held = false → s.cap.sensor = .readout → s.cap.flight = some f → f.ob = none →
    let mean := ((samples.take 1024).map (normalized f.depth)).sum / 1024
    let black := match s.cap.black with
      | none => min (16 * mean) 32752
      | some b => (max (0 : Int) (min 32752 ((b : Int) + max (-(s.settings.capture.step : Int))
                    (min (s.settings.capture.step : Int) (Int.tdiv (16 * (mean : Int) - b) 8))))).toNat
    exec (.obRowsEnd samples) s
      = .next ({ s with cap := { s.cap with black := some black, flight := some { f with ob := some (mean, black) } } }).settle)
  ∧ (∀ (s : State) (f : Flight) (mean black due : Nat) (quads : List Quad) (lines : List PupilLines), s.held = false →
    s.cap.sensor = .readout → s.cap.flight = some f → f.ob = some (mean, black) → f.readoutDue = some due →
    let x := (s.carryTo due).endReadout f mean black quads lines
    let stats := frameStats f.depth f.width f.height mean black quads
    let data := PictData.sensor f.depth f.width (quads.take (quadCount f.width f.height))
    exec (.readoutEnd quads lines) s = .next x.settle
      ∧ x.cap.flight = none ∧ x.cap.prevReadout = some (max s.sup.elapsed due) ∧ x.sup = (s.carryTo due).sup
      ∧ x.cap.sensor = (if s.sup.power = .active then SensorState.ready else .off)
      ∧ x.foc.zones = (if s.sup.power = .active then measureZones x.sup.timeBase lines else List.replicate 150 Zone.unmeasured)
      ∧ x.foc.measureCount = (s.foc.measureCount + 1) % 4294967296
      ∧ (∀ (sh : Shot) (o : Obj), s.shot f.entry = some sh → sh.raw = some o → sh.state ≠ .ring →
          ∃ sh' o', x.shot f.entry = some sh' ∧ sh'.state = .buffered ∧ sh'.number = sh.number ∧ sh'.stats = some stats
            ∧ sh'.raw = some o' ∧ o'.complete = true ∧ o'.cardBound = true ∧ o'.holds.fill = false ∧ o'.extents = o.extents
            ∧ o'.size = o.size ∧ o'.data = data)
      ∧ (∀ (sh : Shot) (o : Obj), s.shot f.entry = some sh → sh.raw = some o → sh.state = .ring → f.entry ∈ s.cap.ring →
          x.shot f.entry = some { sh with
            stats := some stats,
            raw := some { o with data := data, complete := true, cardBound := true, holds := { o.holds with fill := false } } })
      ∧ (∀ (sh : Shot) (o : Obj), s.shot f.entry = some sh → sh.raw = some o → sh.state = .ring → f.entry ∉ s.cap.ring →
          x.shot f.entry = none ∧ ∃ back, back.Perm o.extents ∧ x.sbm.freeList = s.sbm.freeList ++ back))
  ∧ (∀ d : Depth,
    let group := match d with | .d12 => 24 | .d14 => 56
    ∃ held : Nat → Nat, (∀ p, held p / group = p / group) ∧ (∀ p q, held p = held q → p = q)
      ∧ ∀ (width : Nat) (quads : List Quad) (i b : Nat), b < 8 →
        let t := held (8 * i + b) / d.bits
        let row := t / width
        let column := t % width
        let q := quads.getD (row / 2 * (width / 2) + column / 2) ⟨0, 0, 0, 0⟩
        let sample := if row % 2 = 0 then (if column % 2 = 0 then q.r else q.g1) else (if column % 2 = 0 then q.g2 else q.b)
        ((PictData.sensor d width quads).byteAt i).getLsbD b = sample.testBit (held (8 * i + b) % d.bits))
  ∧ (∀ (d : Depth) (width height k : Nat) (quads : List Quad) (extents : List (List Byte)), width % 16 = 0 → height % 2 = 0 →
    k < quadCount width height →
    (∀ q ∈ quads, q.r < 2 ^ d.bits ∧ q.g1 < 2 ^ d.bits ∧ q.g2 < 2 ^ d.bits ∧ q.b < 2 ^ d.bits) →
    (∀ i, i < width * height * d.bits / 8 → (PictData.card extents).byteAt i = (PictData.sensor d width quads).byteAt i) →
    RawData.quad d width k (.card extents) = RawData.quad d width k (.sensor quads))

/-- When a committed frame's opportunity has come, the power state is ACTIVE, the level NORMAL, the sensor READY, the
gate says GO, the flash outcome is settled, an entry is FREE, a number is left and the extents suffice, its evaluation
opens the lowest-indexed FREE entry in EXPOSING with the next number, the present time base and the working exposure,
reserves the raw from the head of the free list with FILL alone, raises the next number by one and starts the
exposure. An entry in use keeps its record. In RING an admitted ring frame opens its entry in RING without a number,
with FILL and RING on its raw, and joins the ring. The release of half-press discards the ring and drops the pending
frame, and a full-press or a trigger frame commits the ring's entries in order. A discard of a complete raw frees the
entry and gives its extents back at the tail, and one in flight only loses RING, both without a report. A commit takes
the next number and the look, reports SHOT_COMMITTED, and leaves an entry in flight EXPOSING or READOUT with FILL
alone, and a complete one BUFFERED without FILL and RING. (R2, R6, R7, R8, R9, R12, R17, R41, R51, R53, R57, R58.) -/
def Obligations.AdmittedFrameCommits : Prop :=
  (∀ (s : State) (f : Frame) (q : Sequence) (i n : Nat) (o : Flash) (w : Wait), s.cap.frame = some f → f.reached = true → s.cap.sequence = some q →
    (s.cap.drive = .shot ∨ s.cap.drive = .burst) → s.sup.power = .active → s.sup.level = .normal → s.cap.sensor = .ready →
    s.gateAnswer = .go → s.wrapPattern.flashCheck f = .settled o w → s.sbm.freeEntry = some i → s.sbm.nextNumber = some n →
    extentsFor (rawSize q.depth q.crop) ≤ s.sbm.freeList.length →
    (∀ j, j < i → s.shot j ≠ none)
    ∧ (∃ sh ob, s.evaluate.shot i = some sh ∧ sh.state = .exposing ∧ sh.number = some n ∧ sh.startTime = s.sup.timeBase
      ∧ sh.verdict = s.verdict ∧ sh.lensPosition = s.foc.position ∧ sh.flash = some o ∧ sh.rendition = none ∧ sh.thumb = none
      ∧ sh.snapshot = some { exposure := if q.drive = .single then s.settings.capture.exposure
                                         else min s.settings.capture.exposure (1000000 / q.rate - q.depth.readout),
                             gain := s.settings.capture.gain, depth := q.depth, crop := q.crop }
      ∧ sh.raw = some ob ∧ ob.complete = false ∧ ob.size = rawSize q.depth q.crop ∧ ob.holds = { fill := true }
      ∧ ob.extents = s.sbm.freeList.take (extentsFor (rawSize q.depth q.crop)))
    ∧ s.evaluate.sbm.freeList = s.sbm.freeList.drop (extentsFor (rawSize q.depth q.crop))
    ∧ s.evaluate.sbm.nextNumber = (if n < 4294967295 then some (n + 1) else none)
    ∧ s.evaluate.cap.sensor = .exposing ∧ (∀ j, j ≠ i → s.evaluate.shot j = s.shot j))
  ∧ (∀ (s : State) (f : Frame) (q : Sequence) (i : Nat), s.cap.frame = some f → f.reached = true → s.cap.sequence = some q →
    s.cap.drive = .ring → s.sup.power = .active → s.sup.level = .normal → s.cap.sensor = .ready → s.cap.ring.length < q.ringDepth →
    s.ringLack s.cap.ring.length (rawSize q.depth q.crop) = none → s.sbm.freeEntry = some i →
    ∃ sh ob, s.evaluate.shot i = some sh ∧ sh.state = .ring ∧ sh.number = none ∧ sh.startTime = s.sup.timeBase ∧ sh.flash = some .none
      ∧ sh.raw = some ob ∧ ob.complete = false ∧ ob.holds = { fill := true, ring := true }
      ∧ ob.extents = s.sbm.freeList.take (extentsFor (rawSize q.depth q.crop))
      ∧ s.evaluate.cap.ring = s.cap.ring ++ [i] ∧ s.evaluate.sbm.nextNumber = s.sbm.nextNumber ∧ s.evaluate.cap.sensor = .exposing
      ∧ s.evaluate.link = s.link ∧ (∀ j, j ≠ i → s.evaluate.shot j = s.shot j))
  ∧ (∀ s : State, s.sup.power = .active → s.cap.drive = .ring → s.cap.full = false → s.cap.trigger = false → s.cap.half = false →
    let x := s.cap.ring.foldl State.discardRing s
    s.driveReact.shot = x.shot ∧ s.driveReact.sbm = x.sbm ∧ s.driveReact.cap.ring = [] ∧ s.driveReact.cap.drive = .idle
      ∧ s.driveReact.cap.frame = none ∧ s.driveReact.cap.sequence = none)
  ∧ (∀ s : State, s.sup.power = .active → s.cap.drive = .ring → (s.cap.full = true ∨ s.cap.trigger = true) →
    ∃ x : State, x.cap = { s.cap with drive := .burst, pattern := 0, burst := Burst.empty, frame := s.firstAfterRing, ring := [] }
      ∧ x.sbm = s.sbm ∧ x.link = s.link ∧ s.driveReact = (s.cap.ring.foldl State.commitRing x).notify .evaluate)
  ∧ (∀ (s : State) (i : Nat) (sh : Shot) (o : Obj), s.shot i = some sh → sh.state = .ring → sh.raw = some o → o.complete = true →
    (s.discardRing i).shot i = none ∧ (s.discardRing i).link = s.link ∧ (s.discardRing i).sbm.nextNumber = s.sbm.nextNumber
      ∧ (∃ back, back.Perm o.extents ∧ (s.discardRing i).sbm.freeList = s.sbm.freeList ++ back)
      ∧ (∀ j, j ≠ i → (s.discardRing i).shot j = s.shot j))
  ∧ (∀ (s : State) (i : Nat) (sh : Shot) (o : Obj), s.shot i = some sh → sh.state = .ring → sh.raw = some o → o.complete = false →
    o.holds.fill = true →
    (s.discardRing i).shot i = some { sh with raw := some { o with holds := { o.holds with ring := false } } }
      ∧ (s.discardRing i).link = s.link ∧ (s.discardRing i).sbm.freeList = s.sbm.freeList
      ∧ (∀ j, j ≠ i → (s.discardRing i).shot j = s.shot j))
  ∧ (∀ (s : State) (i n : Nat) (sh : Shot) (o : Obj) (f : Flight), s.sbm.nextNumber = some n → s.shot i = some sh → sh.raw = some o →
    o.holds.fill = true → s.cap.flight = some f → f.entry = i →
    (s.commitRing i).shot i = some { sh with
        state := if s.cap.sensor = .readout then .readout else .exposing, number := some n, look := some s.settings.lookSnapshot,
        raw := some { o with holds := { o.holds with ring := false } } }
      ∧ (s.commitRing i).sbm.nextNumber = (if n < 4294967295 then some (n + 1) else none)
      ∧ (s.commitRing i).link
          = (s.raise .shotCommitted (committedFields n i sh.startTime sh.verdict (sh.flash.getD .none))).link
      ∧ (∀ j, j ≠ i → (s.commitRing i).shot j = s.shot j))
  ∧ (∀ (s : State) (i n : Nat) (sh : Shot) (o : Obj), s.sbm.nextNumber = some n → s.shot i = some sh → sh.raw = some o →
    (∀ f, s.cap.flight = some f → f.entry ≠ i) →
    ∃ sh' o', (s.commitRing i).shot i = some sh' ∧ sh'.state = .buffered ∧ sh'.number = some n
      ∧ sh'.look = some s.settings.lookSnapshot ∧ sh'.startTime = sh.startTime ∧ sh'.raw = some o' ∧ o'.complete = true
      ∧ o'.holds.fill = false ∧ o'.holds.ring = false ∧ o'.extents = o.extents
      ∧ (s.commitRing i).sbm.nextNumber = (if n < 4294967295 then some (n + 1) else none))
  ∧ (∀ (s : State) (i n : Nat) (sh : Shot), s.sbm.nextNumber = some n → s.shot i = some sh →
    (∀ f, s.cap.flight = some f → f.entry ≠ i) →
    let x := (({ s with
        sbm := { s.sbm with nextNumber := if n < 4294967295 then some (n + 1) else none },
        cap := { s.cap with burst := { s.cap.burst with
          count := s.cap.burst.count + 1, first := some (s.cap.burst.first.getD n), last := some n } } }).mapShot i fun _ =>
        { sh with state := .buffered, number := some n, look := some s.settings.lookSnapshot }).raise .shotCommitted
          (committedFields n i sh.startTime sh.verdict (sh.flash.getD .none))
    s.commitRing i = (x.completeRaw i).raise .shotBuffered (bufferedFields n i sh))

/-- Whatever the OB mean, an unset baseline becomes the smaller of sixteen times the mean and 32,752, and a set one
within 0 to 32,752 moves toward sixteen times the mean by an eighth of the difference, truncated toward zero, and by
no more than the step, staying within 0 to 32,752. (R62.) -/
def Obligations.BlackBaselineStaysInBounds : Prop :=
  (∀ step mean : Nat, nextBlack step none mean = min (16 * mean) 32752)
  ∧ (∀ step b mean : Nat, b ≤ 32752 →
    nextBlack step (some b) mean ≤ 32752
    ∧ nextBlack step (some b) mean ≤ b + step ∧ b ≤ nextBlack step (some b) mean + step
    ∧ (b ≤ 16 * mean → nextBlack step (some b) mean = min 32752 (b + min step ((16 * mean - b) / 8)))
    ∧ (16 * mean ≤ b → nextBlack step (some b) mean = b - min step ((b - 16 * mean) / 8)))

/-- With the line QUIET, SET_LENS fits the clamped record and position, or removes both; with a move outstanding it
answers STATE and changes nothing. MOVING restarts the answer timer at attempt 1. SETTLED takes the position and ends
the move, and a pending target other than that position is sent as the next move with the answer due 50,000 us later.
The answer timer's first expiry sends the move again as attempt 2, and the second ends it in FAULT with LENS_FAULT.
The answer timer carries the clock to its moment (log entry 2); that SET_LENS gives its values under OK too, with one
presence byte for each, is the model's reading (log entries 38 and 39). (R95, R98, R99, R100, R101.) -/
def Obligations.LensCommandsAndAnswers : Prop :=
  (∀ (s : State) (tag : Nat) (a : LensArgs), s.Awake → s.foc.line = none → a.present = some true →
    ∃ t status, exec (.setLens tag a) s = .next t ∧ t.foc.lens = some a.used.1 ∧ t.foc.position = some a.used.2 ∧ t.foc.lastMove = none
      ∧ t.settings = s.settings ∧ t.sup = s.sup ∧ t.foc.zones = s.foc.zones
      ∧ t.link.replies = s.link.replies ++ [{
          kind := 0xA9, tag := tag,
          body := Status.byte status :: ((1 :: le 2 a.used.1.near) ++ (1 :: le 2 a.used.1.far) ++ (1 :: le 2 a.used.1.gain)
                    ++ (1 :: le 2 a.used.1.maxPredict) ++ (1 :: le 2 a.used.2)) }]
      ∧ (status = .ok ↔ a.used = a.sent))
  ∧ (∀ (s : State) (tag : Nat) (a : LensArgs), s.Awake → s.foc.line = none → a.present = some false →
    ∃ t, exec (.setLens tag a) s = .next t ∧ t.foc.lens = none ∧ t.foc.position = none ∧ t.foc.lastMove = none
      ∧ t.settings = s.settings ∧ t.link.replies = s.link.replies ++ [{ kind := 0xA9, tag := tag, body := [Status.byte .ok, 0, 0, 0, 0, 0] }])
  ∧ (∀ (s : State) (tag : Nat) (a : LensArgs), s.Awake → s.Steady → s.foc.line ≠ none → a.present ≠ none →
    exec (.setLens tag a) s = .next (s.pushReply 0xA9 tag .state []))
  ∧ (∀ (s : State) (m : Move), s.held = false → s.foc.lens ≠ none → s.foc.line = some m →
    exec .lensMoving s
      = .next ({ s with foc := { s.foc with line := some { m with attempt := 1, answerDue := s.sup.elapsed + 50000 } } }).settle)
  ∧ (∀ (s : State) (position : Nat), s.held = false → s.foc.lens ≠ none → s.foc.line = none →
    exec (.lensSettled position) s = .next ({ s with foc := { s.foc with position := some position } }).settle)
  ∧ (∀ (s : State) (m : Move) (position : Nat), s.held = false → s.foc.lens ≠ none → s.foc.line = some m → s.foc.pendingTarget = none →
    exec (.lensSettled position) s = .next ({ s with foc := { s.foc with position := some position, line := none } }).settle)
  ∧ (∀ (s : State) (m : Move) (position target : Nat) (k : MoveKind), s.held = false → s.foc.lens ≠ none → s.foc.line = some m →
    s.foc.pendingTarget = some (target, k) → target ≠ position →
    exec (.lensSettled position) s = .next ({ s with foc := { s.foc with
      position := some position, pendingTarget := none, lastMove := some k,
      line := some { target := target, attempt := 1, answerDue := s.sup.elapsed + 50000 } } }).settle)
  ∧ (∀ (s : State) (m : Move), s.held = false → s.foc.line = some m → m.attempt = 1 →
    let x := s.carryTo m.answerDue
    exec .lensAnswerTimeout s = .next ({ x with foc := { x.foc with
      line := some { m with attempt := 2, answerDue := x.sup.elapsed + 50000 },
      repeats := (s.foc.repeats + 1) % 4294967296 } }).settle)
  ∧ (∀ (s : State) (m : Move), s.held = false → s.foc.line = some m → m.attempt ≠ 1 →
    let x := s.carryTo m.answerDue
    exec .lensAnswerTimeout s = .next ((({ x with foc := { x.foc with
      line := none, pendingTarget := none, state := .fault, lostTime := none, sweep := none } }).raise .lensFault
      (le 2 m.target ++ le 2 (s.foc.position.getD 0))).settle))

/-- The choice is made in SEARCHING, DRIVING, TRACKING, LOST and FAULT and sets the selected zone; in CONTINUOUS with
a selected zone it is made among the eligible zones of its neighbourhood, where there are any. In SINGLE an outcome in
focus locks with the line QUIET and FOCUS_LOCKED raised, or stays DRIVING with the pending target dropped; one out of
focus sends the measured target, the lens position plus the phase times the gain over 4,096 rounded to nearest with
ties away from zero, within the limits, unless the lens stands there, and enters DRIVING. An outcome NONE with the
line QUIET steps the sweep from the position toward the far limit, reverses there, and fails at the near limit with
FOCUS_FAILED; in DRIVING it starts a new sweep, whose first step comes at the next outcome NONE (log entry 37). In
CONTINUOUS an outcome CHOSEN enters TRACKING or DRIVING, joins the history, restarts the lost timer and offers the
measured target outside a burst; NONE in DRIVING or TRACKING enters SEARCHING. The lost timer's expiry carries the
time base to it and, in SEARCHING, DRIVING or TRACKING, enters LOST with the pending target and the history dropped
and FOCUS_LOST raised, which carries the selected zone's number (log entry 52). The focus wait's expiry makes the
answer for its frame GO. The in-focus age fires 40,000 us after the last in-focus time, and its step ends at the next
reading, where the gate answers afresh (log entry 24). The gate answers GO exactly in the cases of R102. The timers
carry the clock to their moments (log entry 2). (R83, R84, R89, R90, R92, R93, R96, R97, R98, R102, R103, R205.) -/
def Obligations.FocusTimersAct : Prop :=
  (∀ (s : State) (due : Nat), s.held = false → s.foc.lostTime = some due → due < 2 ^ 64 →
    (s.foc.state = .searching ∨ s.foc.state = .driving ∨ s.foc.state = .tracking) →
    let x := s.carryToTime due
    exec .lostTimerExpiry s = .next ((({ x with foc := { x.foc with
      lostTime := none, state := .lost, pendingTarget := none, history := [] } }).raise .focusLost
      (opt (le 1) (s.foc.selected.map Selected.zone) ++ opt (le 8) s.foc.inFocusTime)).settle))
  ∧ (∀ (s : State) (due : Nat), s.held = false → s.foc.wait = .running due →
    let x := s.carryTo due
    exec .focusWaitExpiry s = .next ({ x with foc := { x.foc with wait := .expired } }).settle)
  ∧ (∀ (s : State) (t : Nat), s.held = false → s.foc.inFocusTime = some t → t + 40001 < 2 ^ 64 →
    exec .inFocusAgeExpiry s = .next (s.carryToTime (t + 40001)).settle)
  ∧ (∀ s : State, s.gateAnswer = .go ↔ (s.settings.af.focusWait = 0 ∨ s.settings.af.mode = .off ∨ s.foc.lens = none
      ∨ s.foc.state = .fault ∨ (s.settings.af.mode = .single ∧ s.foc.state = .locked)
      ∨ (s.settings.af.mode = .continuous ∧ s.foc.state = .tracking ∧ ∃ t, s.foc.inFocusTime = some t ∧ s.sup.timeBase ≤ t + 40000)
      ∨ s.foc.wait = .expired))
  ∧ (∀ s : State, (s.foc.state = .idle ∨ s.foc.state = .locked ∨ s.foc.state = .failed) → s.choose = s)
  ∧ (∀ s : State, (s.foc.state ≠ .idle ∧ s.foc.state ≠ .locked ∧ s.foc.state ≠ .failed) → s.chooseZone = none →
    s.choose = s.handOutcome none)
  ∧ (∀ (s : State) (z : Nat), (s.foc.state ≠ .idle ∧ s.foc.state ≠ .locked ∧ s.foc.state ≠ .failed) → s.chooseZone = some z →
    let c : Selected := { zone := z, phase := (s.foc.zone z).phase, confidence := (s.foc.zone z).confidence, time := s.sup.timeBase }
    s.choose = ({ s with foc := { s.foc with selected := some c } }).handOutcome
      (some (c, decide (c.phase.natAbs ≤ s.settings.af.tolerance) && !(s.foc.zone z).edge)))
  ∧ (∀ (s : State) (c : Selected), s.settings.af.mode = .continuous → s.foc.selected = some c →
    let close := s.eligibleZones.filter fun z =>
      decide (z % 15 ≤ c.zone % 15 + 1 ∧ c.zone % 15 ≤ z % 15 + 1 ∧ z / 15 ≤ c.zone / 15 + 1 ∧ c.zone / 15 ≤ z / 15 + 1)
    s.chooseZone = if close = [] then s.bestZone s.eligibleZones else s.bestZone close)
  ∧ (∀ s : State, (s.settings.af.mode ≠ .continuous ∨ s.foc.selected = none) → s.chooseZone = s.bestZone s.eligibleZones)
  ∧ (∀ (s : State) (c : Option (Selected × Bool)), s.foc.state = .fault → s.handOutcome c = s)
  ∧ (∀ (s : State) (l : Lens) (c : Selected), s.settings.af.mode = .single → s.foc.lens = some l →
    (s.foc.state = .searching ∨ s.foc.state = .driving) → s.foc.line = none →
    s.handOutcome (some (c, true)) = ({ s with foc := { s.foc with state := .locked, pendingTarget := none, sweep := none } }).raise
      .focusLocked (le 1 c.zone ++ twos 2 c.phase ++ le 1 c.confidence ++ le 2 (s.foc.position.getD 0) ++ le 8 c.time))
  ∧ (∀ (s : State) (l : Lens) (m : Move) (c : Selected), s.settings.af.mode = .single → s.foc.lens = some l →
    (s.foc.state = .searching ∨ s.foc.state = .driving) → s.foc.line = some m →
    s.handOutcome (some (c, true)) = { s with foc := { s.foc with state := .driving, pendingTarget := none, sweep := none } })
  ∧ (∀ (s : State) (l : Lens) (c : Selected) (p : Nat), s.settings.af.mode = .single → s.foc.lens = some l → l.near ≤ l.far →
    (s.foc.state = .searching ∨ s.foc.state = .driving) → s.foc.line = none → s.foc.position = some p →
    ∃ n : Int, 2 * (n * 4096 - c.phase * l.gain).natAbs ≤ 4096
      ∧ (2 * (n * 4096 - c.phase * l.gain).natAbs = 4096 → (c.phase * l.gain).natAbs ≤ (n * 4096).natAbs)
      ∧ let target := (max (l.near : Int) (min l.far (p + n))).toNat
        s.handOutcome (some (c, false)) = { s with foc :=
          if target = p then { s.foc with state := .driving, sweep := none }
          else { s.foc with state := .driving, sweep := none, lastMove := some .measured,
                            line := some { target := target, attempt := 1, answerDue := s.sup.elapsed + 50000 } } })
  ∧ (∀ (s : State) (l : Lens) (w : Sweep) (p : Nat), s.settings.af.mode = .single → s.foc.lens = some l → s.foc.state = .searching →
    s.foc.line = none → s.foc.sweep = some w → s.foc.position = some p → l.near ≤ p → p ≤ l.far → l.near < l.far →
    1 ≤ s.settings.af.searchStep →
    let move := fun (w : Sweep) (target : Nat) => ({ s with foc := { s.foc with
      sweep := some w, lastMove := some MoveKind.sweep,
      line := some { target := target, attempt := 1, answerDue := s.sup.elapsed + 50000 } } } : State)
    (w.dir = .far → p < l.far → s.handOutcome none = move w (min l.far (p + s.settings.af.searchStep)))
    ∧ (w.dir = .far → p = l.far → s.handOutcome none = move { dir := .near, reversed := true } (max l.near (p - s.settings.af.searchStep)))
    ∧ (w.dir = .near → l.near < p → s.handOutcome none = move w (max l.near (p - s.settings.af.searchStep)))
    ∧ (w.dir = .near → p = l.near → s.handOutcome none
        = ({ s with foc := { s.foc with state := .failed, sweep := none } }).raise .focusFailed (le 2 p ++ le 4 s.foc.measureCount)))
  ∧ (∀ (s : State) (l : Lens), s.settings.af.mode = .single → s.foc.lens = some l → s.foc.state = .driving →
    s.handOutcome none = if s.foc.line = none then
      { s with foc := { s.foc with state := .searching, sweep := some { dir := .far, reversed := false } } } else s)
  ∧ (∀ (s : State) (l : Lens) (c : Selected) (b : Bool), s.settings.af.mode = .continuous → s.foc.lens = some l → s.foc.state ≠ .fault →
    let h := (if s.foc.history.length < 4 then s.foc.history else s.foc.history.drop 1)
      ++ [(c.time, l.measuredTarget (s.foc.position.getD 0) c.phase)]
    let x := s.handOutcome (some (c, b))
    x.foc.state = (if b then FocusState.tracking else .driving) ∧ x.foc.history = h ∧ x.foc.lostTime = some (c.time + 300000)
      ∧ x.foc.inFocusTime = (if b then some c.time else s.foc.inFocusTime) ∧ x.foc.zones = s.foc.zones ∧ x.link = s.link
      ∧ (s.foc.line = none → s.cap.drive ≠ .burst → s.foc.position ≠ some (l.measuredTarget (s.foc.position.getD 0) c.phase) →
          x.foc.line = some { target := l.measuredTarget (s.foc.position.getD 0) c.phase, attempt := 1,
                              answerDue := s.sup.elapsed + 50000 }
          ∧ x.foc.lastMove = some .measured))
  ∧ (∀ (s : State) (l : Lens), s.settings.af.mode = .continuous → s.foc.lens = some l →
    s.handOutcome none = if s.foc.state = .driving ∨ s.foc.state = .tracking then
      { s with foc := { s.foc with state := .searching, sweep := none } } else s)

/-- Among eligible zones listed in ascending number, the zone chosen is one of them; none has a higher confidence;
among those of equal confidence none is closer to the area's centre by the Chebyshev distance in half-zone units; and
among those equally close none has a lower number. The distance of the zone at column x and row y is the greater of
the magnitudes of 2x + 1 - (2 left + width) and 2y + 1 - (2 top + height). An odd width has a column at distance 0 in
x, an even one two columns at distance 1, and so for rows. (R82.) -/
def Obligations.ZoneChoiceIsBestNearestLowest : Prop :=
  (∀ (s : State) (zs : List Nat) (z : Nat), zs.Pairwise (· < ·) → s.bestZone zs = some z →
    z ∈ zs ∧ ∀ y ∈ zs, (s.foc.zone y).confidence ≤ (s.foc.zone z).confidence
      ∧ ((s.foc.zone y).confidence = (s.foc.zone z).confidence →
          s.settings.af.area.distance z ≤ s.settings.af.area.distance y
          ∧ (s.settings.af.area.distance y = s.settings.af.area.distance z → z ≤ y)))
  ∧ (∀ s : State, ∀ zs : List Nat, (s.bestZone zs = none ↔ zs = []))
  ∧ (∀ (a : Area) (x y : Nat), x < 15 →
    a.distance (15 * y + x) = max ((2 * (x : Int) + 1 - (2 * a.left + a.width)).natAbs) ((2 * (y : Int) + 1 - (2 * a.top + a.height)).natAbs))
  ∧ (∀ left width x : Nat, width % 2 = 1 → ((2 * (x : Int) + 1 - (2 * left + width)).natAbs = 0 ↔ x = left + width / 2))
  ∧ (∀ left width x : Nat, width % 2 = 0 → 1 ≤ width →
    ((2 * (x : Int) + 1 - (2 * left + width)).natAbs = 1 ↔ x = left + width / 2 ∨ x + 1 = left + width / 2))

/-- For every curve and every averaged value L from 0 to 65,535, with k = floor(L / 4,096) in 0 to 15 and f = L -
4,096 k, the output is T[k] + floor(((T[k+1] - T[k]) x f + 2,048) / 4,096) clamped to 0 to 255, floor rounding toward
minus infinity. L = 0 gives T[0]; L = 65,535 uses k = 15 and f = 4,095, and for curve 0 it gives 255. (R126.) -/
def Obligations.ToneCurveInterpolates : Prop :=
  (∀ (t : List Nat) (l k f : Nat), curveOk t → l ≤ 65535 → k = l / 4096 → l = 4096 * k + f → f < 4096 →
    k ≤ 15 ∧ toneCurve t l ≤ 255
    ∧ (toneCurve t l : Int) = max 0 (min 255 ((t.getD k 0 : Int) + ((((t.getD (k + 1) 0 : Int) - t.getD k 0) * f + 2048).fdiv 4096))))
  ∧ (∀ t : List Nat, curveOk t → toneCurve t 0 = t.getD 0 0)
  ∧ 65535 / 4096 = 15 ∧ 65535 - 4096 * 15 = 4095 ∧ toneCurve curveFactory 65535 = 255

/-- A taken DEVELOP with a look slot 0 to 7 answers NO_SHOT with no committed entry, STATE for an entry that is not
BUFFERED, is under a deletion, was reinstated or has a rendition, and NO_RAW without a raw object or a recall of it. A
queued RENDITION job of the shot takes the new job look and keeps its place (OK_MERGED), and if it is the head a
WAIT_SPACE engine waits for, the engine looks again; otherwise a job with the slot's look joins at its place (OK),
whether another job of the shot waits or it is the shot's first, which places DEVELOP on the COMPLETE raw, or the raw
is only being recalled. The end of a pass raises the completed count by one when its job and shot are there; it
carries the clock to its moment (log entry 2). (R106, R107, R108, R116, R117, R123, R128.) -/
def Obligations.DevelopCommandAndPassEnds : Prop :=
  (∀ (s : State) (tag n look : Nat), s.Awake → s.Steady → look < 8 → s.committed n = none →
    exec (.develop tag n look) s = .next (s.pushReply 0xC2 tag .noShot []))
  ∧ (∀ (s : State) (tag n look i : Nat) (sh : Shot), s.Awake → s.Steady → look < 8 → s.committed n = some (i, sh) →
    (sh.state ≠ .buffered ∨ sh.deleting = true ∨ sh.reinstated = true ∨ sh.rendition ≠ none) →
    exec (.develop tag n look) s = .next (s.pushReply 0xC2 tag .state []))
  ∧ (∀ (s : State) (tag n look i : Nat) (sh : Shot), s.Awake → s.Steady → look < 8 → s.committed n = some (i, sh) →
    sh.state = .buffered → sh.deleting = false → sh.reinstated = false → sh.rendition = none → sh.raw = none → s.rawRecalled n = false →
    exec (.develop tag n look) s = .next (s.pushReply 0xC2 tag .noRaw []))
  ∧ (∀ (s : State) (tag n look i : Nat) (sh : Shot) (o : Obj), s.Awake → look < 8 → s.committed n = some (i, sh) →
    sh.state = .buffered → sh.deleting = false → sh.reinstated = false → sh.rendition = none → sh.raw = some o →
    s.dev.queue.any (Job.is n .rendition) = true → (∀ asked free, s.dev.engine ≠ .waitSpace asked free) ∨ s.headJob.any (Job.is n .rendition) = false →
    exec (.develop tag n look) s
      = .next (({ s with dev := { s.dev with queue := s.dev.queue.map fun j : Job =>
          if j.shot = n ∧ j.kind = Pict.rendition then { j with look := s.settings.slotLook look } else j } }).settle.pushReply
          0xC2 tag .okMerged []))
  ∧ (∀ (s : State) (tag n look i asked free : Nat) (sh : Shot) (o : Obj) (j : Job), s.Awake → look < 8 → s.committed n = some (i, sh) →
    sh.state = .buffered → sh.deleting = false → sh.reinstated = false → sh.rendition = none → sh.raw = some o →
    s.dev.engine = .waitSpace asked free → s.headJob = some j → j.shot = n → j.kind = Pict.rendition →
    exec (.develop tag n look) s
      = .next ((({ s with dev := { s.dev with queue := s.dev.queue.map fun j : Job =>
          if j.shot = n ∧ j.kind = Pict.rendition then { j with look := s.settings.slotLook look } else j } }).notify .engineLook).settle.pushReply
          0xC2 tag .okMerged []))
  ∧ (∀ (s : State) (tag n look i : Nat) (sh : Shot) (o : Obj), s.Awake → look < 8 → s.committed n = some (i, sh) →
    sh.state = .buffered → sh.deleting = false → sh.reinstated = false → sh.rendition = none → sh.raw = some o →
    s.dev.queue.any (·.shot == n) = true → s.dev.queue.any (Job.is n .rendition) = false →
    exec (.develop tag n look) s
      = .next ((({ s with dev := { s.dev with queue := insertJob {
          entry := i, shot := n, kind := .rendition, look := s.settings.slotLook look, urgent := sh.urgent, returned := false } s.dev.queue } }).notify .engineLook).settle.pushReply
          0xC2 tag .ok []))
  ∧ (∀ (s : State) (tag n look i : Nat) (sh : Shot) (o : Obj), s.Awake → look < 8 → s.committed n = some (i, sh) →
    sh.state = .buffered → sh.deleting = false → sh.reinstated = false → sh.rendition = none → sh.raw = some o → o.complete = true →
    s.dev.queue.any (·.shot == n) = false →
    exec (.develop tag n look) s
      = .next (((({ s with dev := { s.dev with queue := insertJob {
          entry := i, shot := n, kind := .rendition, look := s.settings.slotLook look, urgent := sh.urgent, returned := false } s.dev.queue } }).mapShot
          i fun x : Shot => { x with raw := x.raw.map fun y : Obj => { y with holds := { y.holds with develop := true } } }).notify .engineLook).settle.pushReply
          0xC2 tag .ok []))
  ∧ (∀ (s : State) (tag n look i : Nat) (sh : Shot), s.Awake → look < 8 → s.committed n = some (i, sh) →
    sh.state = .buffered → sh.deleting = false → sh.reinstated = false → sh.rendition = none → sh.raw = none → s.rawRecalled n = true →
    s.dev.queue.any (Job.is n .rendition) = false →
    exec (.develop tag n look) s
      = .next ((({ s with dev := { s.dev with queue := insertJob {
          entry := i, shot := n, kind := .rendition, look := s.settings.slotLook look, urgent := sh.urgent, returned := false } s.dev.queue } }).notify .engineLook).settle.pushReply
          0xC2 tag .ok []))
  ∧ (∀ (s : State) (p : Pass) (j : Job) (sh : Shot), s.held = false → s.dev.engine = .thumbPass p →
    s.dev.queue.find? (Job.is p.shot .thumb) = some j → s.shot p.entry = some sh →
    ∃ t, exec .thumbPassEnd s = .next t ∧ t.dev.completed = (s.dev.completed + 1) % 4294967296 ∧ t.sup = (s.carryTo p.endDue).sup
      ∧ t.settings = s.settings ∧ t.link.replies = s.link.replies)
  ∧ (∀ (s : State) (p : Pass) (j : Job) (sh : Shot) (o : Obj), s.held = false → s.dev.engine = .renderPass p →
    s.dev.queue.find? (Job.is p.shot .rendition) = some j → s.shot p.entry = some sh → sh.rendition = some o → sh.raw ≠ none →
    sh.raw.any (·.holds.isEmpty) = false →
    ∃ t, exec .renderPassEnd s = .next t ∧ t.dev.completed = (s.dev.completed + 1) % 4294967296 ∧ t.sup = (s.carryTo p.endDue).sup
      ∧ t.settings = s.settings ∧ t.link.replies = s.link.replies)

/-- TAG_SHOT on an entry not yet BUFFERED applies its actions and rating, clamped to 5, to the record, and gives the
rating used when it was clamped (an optional field, log entry 38). HOLD places HOST on the object, UNHOLD releases it,
and an object left without a hold is removed and its entry checked. DELETE_SHOT of a BUFFERED shot that no job, item,
recall or card job names marks it, and releases HOST and UNSAVED from its objects, the raw giving its extents back
before the rendition (log entry 48); a second one is answered OK and changes nothing. With no committed entry all four
answer NO_SHOT. TAG_SHOT of a BUFFERED entry also tells DEV and TET: a changed URGENT moves the shot's queued
RENDITION job, unless it is active, to its place with its new flag and no returned mark and the engine looks; a PICKED
or URGENT that went from clear to set has rule 0 and then rule 1 of that match evaluated, and a rule that matches the
shot asks for its item and tells the outcome; and an URGENT that was set raises every item of the shot to the urgent
level, with preemption judged where one in READY or SENDING rose. With deletion pending TAG_SHOT, HOLD and UNHOLD
answer STATE; without it HOLD and UNHOLD of a missing raw answer NO_RAW and of a missing rendition STATE; DELETE_SHOT
of an entry in EXPOSING or READOUT answers STATE. That the deletion is judged before a missing object (log entry 51)
and that an active job keeps its urgent flag as well as its place (log entry 63) are the model's choices. Before the
step's end nothing else changes. (R10, R15, R28, R29, R30, R31, R109, R189, R193.) -/
def Obligations.ShotCommandsActOnTheEntry : Prop :=
  (∀ (s : State) (tag n i : Nat) (sh : Shot) (u p : TagAction) (rating : Option Nat), s.Awake → s.committed n = some (i, sh) →
    sh.deleting = false → sh.state ≠ .buffered →
    exec (.tagShot tag n (some u) (some p) (some rating)) s
      = .next ((s.mapShot i fun _ => { sh with
          urgent := (match u with | .keep => sh.urgent | .set => true | .clear => false),
          picked := (match p with | .keep => sh.picked | .set => true | .clear => false),
          rating := (match rating with | none => sh.rating | some r => min 5 r) }).settle.pushReply 0xB3 tag
          (match rating with | none => .ok | some r => if 5 < r then .okClamped else .ok)
          (match rating with | none => [0] | some r => if 5 < r then [1, 5] else [0])))
  ∧ (∀ (s : State) (tag n i : Nat) (sh : Shot) (k : Pict) (o : Obj), s.Awake → s.committed n = some (i, sh) → sh.deleting = false →
    sh.obj k = some o →
    exec (.hold tag n (some k)) s
      = .next ((s.mapShot i fun x => x.setObj k ((x.obj k).map fun o => { o with holds := { o.holds with host := true } })).settle.pushReply
          0xB4 tag .ok []))
  ∧ (∀ (s : State) (tag n i : Nat) (sh : Shot) (k : Pict) (o : Obj), s.Awake → s.committed n = some (i, sh) → sh.deleting = false →
    sh.obj k = some o → ({ o.holds with host := false } : HoldSet).isEmpty = false →
    exec (.unhold tag n (some k)) s
      = .next ((s.mapShot i fun x => x.setObj k ((x.obj k).map fun o => { o with holds := { o.holds with host := false } })).settle.pushReply
          0xB5 tag .ok []))
  ∧ (∀ (s : State) (tag n i : Nat) (sh : Shot) (k : Pict) (o : Obj), s.Awake → s.committed n = some (i, sh) → sh.deleting = false →
    sh.obj k = some o → ({ o.holds with host := false } : HoldSet).isEmpty = true →
    exec (.unhold tag n (some k)) s = .next (((s.removeObj i k).checkRetire i).settle.pushReply 0xB5 tag .ok []))
  ∧ (∀ (s : State) (tag n i : Nat) (sh : Shot), s.Awake → s.Steady → s.committed n = some (i, sh) → sh.state = .buffered →
    sh.deleting = true → exec (.deleteShot tag n) s = .next (s.pushReply 0xB6 tag .ok []))
  ∧ (∀ (s : State) (tag n i : Nat) (sh : Shot), s.Awake → s.committed n = some (i, sh) → sh.state = .buffered → sh.deleting = false →
    s.jobNames n = false → s.itemNames n = false → s.recallNames n = false → (∀ sl, ∀ j ∈ (s.slot sl).queue, j.shot ≠ n) →
    exec (.deleteShot tag n) s
      = .next (((((s.mapShot i fun x => { x with deleting := true }).setHolds i .raw fun h => { h with host := false, unsaved := false }).setHolds
          i .rendition fun h => { h with host := false, unsaved := false }).checkRetireShot n).settle.pushReply 0xB6 tag .ok []))
  ∧ (∀ (s : State) (tag n : Nat) (u p : TagAction) (rating : Option Nat) (k : Pict), s.Awake → s.Steady → s.committed n = none → k ≠ .thumb →
    exec (.tagShot tag n (some u) (some p) (some rating)) s = .next (s.pushReply 0xB3 tag .noShot [])
    ∧ exec (.hold tag n (some k)) s = .next (s.pushReply 0xB4 tag .noShot [])
    ∧ exec (.unhold tag n (some k)) s = .next (s.pushReply 0xB5 tag .noShot [])
    ∧ exec (.deleteShot tag n) s = .next (s.pushReply 0xB6 tag .noShot []))
  ∧ (∀ (s : State) (tag n i : Nat) (sh : Shot) (u p : TagAction) (rating : Option Nat), s.Awake → s.committed n = some (i, sh) →
    sh.deleting = false → sh.state = .buffered →
    let new : Shot := { sh with
      urgent := (match u with | .keep => sh.urgent | .set => true | .clear => false),
      picked := (match p with | .keep => sh.picked | .set => true | .clear => false),
      rating := (match rating with | none => sh.rating | some r => min 5 r) }
    let x := s.mapShot i fun _ => new
    let y := if new.urgent = sh.urgent then x else x.moveUrgent n new.urgent
    let w := y.evaluateRules i fun m => (m == .picked && new.picked && !sh.picked) || (m == .urgent && new.urgent && !sh.urgent)
    exec (.tagShot tag n (some u) (some p) (some rating)) s
      = .next ((if new.urgent = true ∧ sh.urgent = false then w.raiseItems n else w).settle.pushReply 0xB3 tag
          (match rating with | none => .ok | some r => if 5 < r then .okClamped else .ok)
          (match rating with | none => [0] | some r => if 5 < r then [1, 5] else [0])))
  ∧ (∀ (s : State) (n : Nat) (b : Bool) (j : Job), s.dev.active ≠ some (n, .rendition) →
    s.dev.queue.find? (Job.is n .rendition) = some j →
    let others := s.dev.queue.filter fun q => !(q.shot == n && q.kind == .rendition)
    s.moveUrgent n b = ({ s with dev := { s.dev with
      queue := insertJob { j with urgent := b, returned := false } others } }).notify .engineLook)
  ∧ (∀ (s : State) (n : Nat) (b : Bool), (s.dev.active = some (n, .rendition) ∨ s.dev.queue.find? (Job.is n .rendition) = none) →
    s.moveUrgent n b = s)
  ∧ (∀ (s : State) (i n : Nat) (sh : Shot) (which : RuleMatch → Bool), s.shot i = some sh → sh.number = some n →
    s.evaluateRules i which = (s.evaluateRule i 0 s.settings.rule0 which).evaluateRule i 1 s.settings.rule1 which
    ∧ ∀ (index : Nat) (r : SendRule),
      let q := s.requestItem n r.kind r.priority (r.offset.map fun ms => sh.startTime + 1000 * ms) r.policy .rule
      s.evaluateRule i index r which
        = if which r.matching = true ∧ (r.matching = .all ∨ (r.matching = .picked ∧ sh.picked = true)
              ∨ (r.matching = .confirmed ∧ sh.verdict = .confirmed) ∨ (r.matching = .urgent ∧ sh.urgent = true))
          then q.1.tellRule n r.kind index q.2 else s)
  ∧ (∀ (s : State) (n : Nat),
    let level := s.settings.tether.urgentLevel
    let x := { s with tet := { s.tet with items := s.tet.items.map fun m : Item =>
      if m.shot = n then { m with priority := max m.priority level } else m } }
    s.raiseItems n = if ∃ m ∈ s.tet.items, m.shot = n ∧ (m.state = .ready ∨ m.state = .sending) ∧ m.priority < level
      then x.notify .preempt else x)
  ∧ (∀ (s : State) (tag n i : Nat) (sh : Shot) (u p : TagAction) (rating : Option Nat) (k : Pict), s.Awake → s.Steady →
    s.committed n = some (i, sh) → sh.deleting = true → k ≠ .thumb →
    exec (.tagShot tag n (some u) (some p) (some rating)) s = .next (s.pushReply 0xB3 tag .state [])
    ∧ exec (.hold tag n (some k)) s = .next (s.pushReply 0xB4 tag .state [])
    ∧ exec (.unhold tag n (some k)) s = .next (s.pushReply 0xB5 tag .state []))
  ∧ (∀ (s : State) (tag n i : Nat) (sh : Shot) (k : Pict), s.Awake → s.Steady → s.committed n = some (i, sh) → sh.deleting = false →
    k ≠ .thumb → sh.obj k = none →
    exec (.hold tag n (some k)) s = .next (s.pushReply 0xB4 tag (if k = .raw then .noRaw else .state) [])
    ∧ exec (.unhold tag n (some k)) s = .next (s.pushReply 0xB5 tag (if k = .raw then .noRaw else .state) []))
  ∧ (∀ (s : State) (tag n i : Nat) (sh : Shot), s.Awake → s.Steady → s.committed n = some (i, sh) →
    (sh.state = .exposing ∨ sh.state = .readout) → exec (.deleteShot tag n) s = .next (s.pushReply 0xB6 tag .state []))

/-- Removing an object takes it out of its entry, puts its extents, in ascending number, at the tail of the free list,
leaves every other object and entry as it was, and announces space. A BUFFERED entry with no object and nothing that
names it becomes FREE, with SHOT_RETIRED raised for its number. (R3, R10, R15.) -/
def Obligations.ObjectsLeaveWithTheirLastHold : Prop :=
  (∀ (s : State) (i : Nat) (k : Pict) (o : Obj), s.obj i k = some o →
    (s.removeObj i k).obj i k = none
    ∧ (∃ back, back.Perm o.extents ∧ back.Pairwise (· ≤ ·) ∧ (s.removeObj i k).sbm.freeList = s.sbm.freeList ++ back)
    ∧ (∀ j, j ≠ i → (s.removeObj i k).shot j = s.shot j)
    ∧ (∀ k', k' ≠ k → (s.removeObj i k).obj i k' = s.obj i k')
    ∧ Notice.evaluate ∈ (s.removeObj i k).notices ∧ Notice.engineLook ∈ (s.removeObj i k).notices
    ∧ (∀ sl, Notice.recallAsk sl ∈ (s.removeObj i k).notices))
  ∧ (∀ (s : State) (i n : Nat) (sh : Shot), s.shot i = some sh → sh.state = .buffered → sh.number = some n → sh.raw = none →
    sh.rendition = none → s.jobNames n = false → s.itemNames n = false → s.recallNames n = false →
    (s.checkRetire i).shot i = none ∧ (s.checkRetire i).link
      = (s.raise .shotRetired (le 4 n ++ le 1 i ++ code CardStatus.all sh.cards.rawA ++ code CardStatus.all sh.cards.rawB
          ++ code CardStatus.all sh.cards.renditionA ++ code CardStatus.all sh.cards.renditionB)).link
    ∧ (∀ j, j ≠ i → (s.checkRetire i).shot j = s.shot j))

/-- GRANT_WINDOW on a writable slot whose mount number matches clamps the window to the card and gives it: an IDLE or
SHORT slot with an empty queue and nothing unsaved takes it at once with its cursor at the start, a WRITING or
SUSPENDED slot keeps it pending. On any other slot or mount it answers STATE. RECALL of a picture not in the buffer
and not being recalled joins the slot of its newest index entry that is mounted and has room, and gives the slot and
mount number; unknown to the index it is NO_SHOT. (R27, R134, R135, R147, R148, R149.) -/
def Obligations.WindowsAndRecallsAreGranted : Prop :=
  (∀ (s : State) (tag mount start length : Nat) (sl : Slot), s.Awake → ((s.slot sl).state = .idle ∨ (s.slot sl).state = .short) →
    (s.slot sl).mount = some mount → (s.slot sl).queue = [] → s.sweepOrder = [] →
    let capacity := (s.slot sl).capacity.getD 0
    let a := max 0 (min (capacity - 1) start)
    let w : Window := ⟨a, max 1 (min (capacity - a) length)⟩
    exec (.grantWindow tag (some sl) mount start length) s
      = .next ((s.setSlot sl { s.slot sl with state := .idle, window := some w, cursor := w.start }).settle.pushReply 0xC9 tag
          (if w = ⟨start, length⟩ then .ok else .okClamped) (le 4 w.start ++ le 4 w.length)))
  ∧ (∀ (s : State) (tag mount start length : Nat) (sl : Slot), s.Awake → ((s.slot sl).state = .writing ∨ (s.slot sl).state = .suspended) →
    (s.slot sl).mount = some mount →
    let capacity := (s.slot sl).capacity.getD 0
    let a := max 0 (min (capacity - 1) start)
    let w : Window := ⟨a, max 1 (min (capacity - a) length)⟩
    exec (.grantWindow tag (some sl) mount start length) s
      = .next ((s.setSlot sl { s.slot sl with pendingWindow := some w }).settle.pushReply 0xC9 tag
          (if w = ⟨start, length⟩ then .ok else .okClamped) (le 4 w.start ++ le 4 w.length)))
  ∧ (∀ (s : State) (tag mount start length : Nat) (sl : Slot), s.Awake → s.Steady →
    ((s.slot sl).state.writable = false ∨ (s.slot sl).mount ≠ some mount) →
    exec (.grantWindow tag (some sl) mount start length) s = .next (s.pushReply 0xC9 tag .state []))
  ∧ (∀ (s : State) (tag n : Nat) (k : Pict) (e : IndexEntry), s.Awake → k ≠ .thumb → s.committed n = none →
    s.crd.a.hasRecall n k = false → s.crd.b.hasRecall n k = false →
    ((s.indexOf n k).filter s.mountedEntry).find? (fun e => (s.slot e.slot).recalls.length < 4) = some e →
    exec (.recall tag n (some k)) s
      = .next ((s.queueRecall e true none).settle.pushReply 0xCA tag .ok (code Slot.all e.slot ++ le 2 e.mount)))
  ∧ (∀ (s : State) (tag n : Nat) (k : Pict), s.Awake → s.Steady → k ≠ .thumb → s.committed n = none →
    s.crd.a.hasRecall n k = false → s.crd.b.hasRecall n k = false → (∀ e ∈ s.sbm.cardIndex, e.shot = n → e.kind ≠ k) →
    exec (.recall tag n (some k)) s = .next (s.pushReply 0xCA tag .noShot []))

/-- CARD_INSERTED on an ABSENT slot takes the mount counter as its mount number, which rises by one and wraps from
65,535 to 1, and starts MOUNTING for 1,000 ms. A completed initialization makes the slot LOCKED or, with nothing
unsaved, IDLE with its capacity; a failed one or the timeout makes it FAILED. CARD_REMOVED leaves the slot ABSENT with
no mount number, capacity or window. The other slot's state, mount number and windows are untouched by all but a
removal's and a mounting's sweep. MOUNT_TIMEOUT carries the clock to its moment (log entry 2). (R130, R132, R133,
R146.) -/
def Obligations.CardsMountAndLeave : Prop :=
  (∀ (s : State) (sl : Slot), s.held = false → (s.slot sl).state = .absent →
    ∃ t, exec (.cardInserted sl) s = .next t
      ∧ (t.slot sl).kept = { CardSlot.absent.kept with
          state := .mounting, mount := some s.crd.mountCounter, mountDue := some (s.sup.elapsed + 1000000) }
      ∧ t.crd.mountCounter = (if s.crd.mountCounter = 65535 then 1 else s.crd.mountCounter + 1)
      ∧ (∀ m, m ≠ sl → (t.slot m).kept = (s.slot m).kept) ∧ t.settings = s.settings ∧ t.sup = s.sup)
  ∧ (∀ (s : State) (sl : Slot) (capacity : Nat), s.held = false → (s.slot sl).state = .mounting →
    ∃ t, exec (.mountComplete sl capacity true) s = .next t
      ∧ (t.slot sl).kept = { (s.slot sl).kept with state := .locked, capacity := some capacity, mountDue := none }
      ∧ (∀ m, m ≠ sl → (t.slot m).kept = (s.slot m).kept) ∧ t.settings = s.settings ∧ t.sup = s.sup)
  ∧ (∀ (s : State) (sl : Slot) (capacity : Nat), s.held = false → (s.slot sl).state = .mounting → s.sweepOrder = [] →
    ∃ t, exec (.mountComplete sl capacity false) s = .next t
      ∧ (t.slot sl).kept = { (s.slot sl).kept with state := .idle, capacity := some capacity, mountDue := none }
      ∧ (∀ m, m ≠ sl → (t.slot m).kept = (s.slot m).kept) ∧ t.settings = s.settings ∧ t.sup = s.sup)
  ∧ (∀ (s : State) (sl : Slot), s.held = false → (s.slot sl).state = .mounting →
    ∃ t, exec (.mountFailed sl) s = .next t
      ∧ (t.slot sl).kept = { (s.slot sl).kept with state := .failed, mountDue := none }
      ∧ (∀ m, m ≠ sl → (t.slot m).kept = (s.slot m).kept) ∧ t.settings = s.settings ∧ t.sup = s.sup)
  ∧ (∀ (s : State) (sl : Slot) (due : Nat), s.held = false → (s.slot sl).state = .mounting → (s.slot sl).mountDue = some due →
    ∃ t, exec (.mountTimeout sl) s = .next t
      ∧ (t.slot sl).kept = { (s.slot sl).kept with state := .failed, mountDue := none }
      ∧ (∀ m, m ≠ sl → (t.slot m).kept = (s.slot m).kept) ∧ t.settings = s.settings ∧ t.sup = (s.carryTo due).sup)
  ∧ (∀ (s : State) (sl : Slot), s.held = false → (s.slot sl).state ≠ .absent →
    ∃ t, exec (.cardRemoved sl) s = .next t ∧ (t.slot sl).state = .absent ∧ (t.slot sl).mount = none
      ∧ (t.slot sl).capacity = none ∧ (t.slot sl).window = none ∧ t.settings = s.settings ∧ t.sup = s.sup)

/-- A successful extent write that is not the last moves the cursor by the extent's blocks and counts it; the last one
adds a card index entry with the job's blocks and cursor start and raises the added count, whether or not a recall is
ready (the slot is not SUSPENDED for it, log entry 19). A failed write or read is tried again until the third failure,
and the third failed write makes the slot FAILED. A successful read that is not the last adds the extent's 2,048
blocks to the object and counts it; the extent read under way covers the blocks from the recall's start block plus
2,048 for each extent read, 2,048 of them or for the last the recall's remainder. The extent write under way covers
2,048 blocks from the cursor, the last one the blocks that remain, and sends the object's bytes from that extent on,
with zero bytes beyond the object's size. The last successful read adds the remainder, makes the object COMPLETE,
replaces FILL, raises RECALL_DONE with whether the object was kept, takes the recall out of its queue and hands the
slot on. FILL gives way to HOST for a host requester, TETHER for a waiting item and DEVELOP for a raw whose shot has a
job queued; a hold placed before stays, and an object left with none is removed. (R24, R26, R139, R140, R141, R152,
R153.) -/
def Obligations.ExtentsAreWrittenAndRead : Prop :=
  (∀ (s : State) (sl : Slot) (j : WriteJob) (js : List WriteJob), s.held = false → (s.slot sl).state = .writing →
    (s.slot sl).queue = j :: js → j.stop = false → j.written + 1 < j.extents → (s.slot sl).recallReserved = false →
    exec (.extentWriteEnd sl true) s
      = .next (s.setSlot sl { s.slot sl with
          cursor := (s.slot sl).cursor + 2048, queue := { j with written := j.written + 1 } :: js, retry := 0 }).settle)
  ∧ (∀ (s : State) (sl : Slot) (j : WriteJob) (js : List WriteJob) (sh : Shot) (o : Obj), s.held = false → (s.slot sl).state = .writing →
    (s.slot sl).queue = j :: js → j.stop = false → j.written + 1 = j.extents → j.kind ≠ .thumb → s.shot j.entry = some sh →
    s.obj j.entry j.kind = some o →
    ∃ t e, exec (.extentWriteEnd sl true) s = .next t ∧ t.sbm.cardIndex.getLast? = some e ∧ e.shot = j.shot ∧ e.kind = j.kind
      ∧ e.slot = sl ∧ e.blocks = j.blocks ∧ e.start = j.start.getD 0 ∧ e.mount = (s.slot sl).mount.getD 0 ∧ e.size = o.size
      ∧ e.startTime = sh.startTime ∧ t.sbm.addedCount = (s.sbm.addedCount + 1) % 4294967296)
  ∧ (∀ (s : State) (sl : Slot) (j : WriteJob) (js : List WriteJob), s.held = false → (s.slot sl).state = .writing →
    (s.slot sl).queue = j :: js → (s.slot sl).retry < 2 →
    exec (.extentWriteEnd sl false) s = .next (s.setSlot sl { s.slot sl with retry := (s.slot sl).retry + 1 }).settle)
  ∧ (∀ (s : State) (sl : Slot) (j : WriteJob) (js : List WriteJob), s.held = false → (s.slot sl).state = .writing →
    (s.slot sl).queue = j :: js → 2 ≤ (s.slot sl).retry →
    ∃ t, exec (.extentWriteEnd sl false) s = .next t ∧ (t.slot sl).state = .failed ∧ (t.slot sl).window = none
      ∧ (t.slot sl).pendingWindow = none ∧ t.settings = s.settings ∧ t.sup = s.sup)
  ∧ (∀ (s : State) (sl : Slot) (r : Recall) (rs : List Recall) (i : Nat) (data : List Byte), s.held = false →
    (s.slot sl).recalls = r :: rs → (s.slot sl).readMark = true → r.state = .reading → r.entry = some i → r.stop = false →
    r.read + 1 < extentsFor r.size →
    exec (.extentReadEnd sl true data) s
      = .next ((s.mapObj i r.kind (Obj.addExtent { start := r.start + 2048 * r.read, length := 2048 } data)).setSlot sl
          { s.slot sl with recalls := { r with read := r.read + 1, retry := 0 } :: rs }).settle)
  ∧ (∀ (s : State) (sl : Slot) (r : Recall) (rs : List Recall) (i : Nat) (data : List Byte), s.held = false →
    (s.slot sl).recalls = r :: rs → (s.slot sl).readMark = true → r.state = .reading → r.entry = some i → r.stop = false →
    r.retry < 2 →
    exec (.extentReadEnd sl false data) s
      = .next (s.setSlot sl { s.slot sl with recalls := { r with retry := r.retry + 1 } :: rs }).settle)
  ∧ (∀ (s : State) (sl : Slot) (j : WriteJob) (js : List WriteJob) (o : Obj), (s.slot sl).state = .writing → (s.slot sl).queue = j :: js →
    s.obj j.entry j.kind = some o →
    ∃ w, s.extentWrite sl = some w ∧ w.start = (s.slot sl).cursor
      ∧ w.blocks = (if j.written + 1 < j.extents then 2048 else j.blocks - 2048 * (j.extents - 1))
      ∧ w.bytes.length = 512 * w.blocks
      ∧ ∀ i, i < 512 * w.blocks → w.bytes[i]? = some
          (if 1048576 * j.written + i < o.size then o.data.byteAt (1048576 * j.written + i) else 0))
  ∧ (∀ (s : State) (sl : Slot) (r : Recall) (rs : List Recall), (s.slot sl).recalls = r :: rs → (s.slot sl).readMark = true →
    r.state = .reading →
    s.readingRun sl = some {
      start := r.start + 2048 * r.read,
      length := if r.read + 1 < extentsFor r.size then 2048 else r.blocks - 2048 * (extentsFor r.size - 1) })
  ∧ (∀ (run : Window) (data : List Byte) (o : Obj) (extents : List (List Byte)), o.data = .card extents →
    Obj.addExtent run data o = { o with data := .card (extents ++ [data.take (512 * run.length)]) })
  ∧ (∀ (s : State) (sl : Slot) (r : Recall) (rs : List Recall) (i : Nat) (data : List Byte), s.held = false →
    (s.slot sl).recalls = r :: rs → (s.slot sl).readMark = true → r.state = .reading → r.entry = some i → r.stop = false →
    extentsFor r.size ≤ r.read + 1 →
    let last : Window := {
      start := r.start + 2048 * r.read,
      length := r.blocks - 2048 * (extentsFor r.size - 1) }
    let x := (s.mapObj i r.kind (Obj.addExtent last data)).setSlot sl
      { s.slot sl with recalls := { r with read := r.read + 1, retry := 0 } :: rs }
    let y := x.completeRecalled i r.shot r.kind r.host
    let w := y.raise .recallDone (le 4 r.shot ++ code Pict.all r.kind ++ code Slot.all sl ++ le 2 r.mount ++ le 1 i ++ [0]
      ++ flag ((x.shot i).any (·.reinstated)) ++ flag (y.obj i r.kind).isSome)
    exec (.extentReadEnd sl true data) s
      = .next ((((w.setSlot sl { w.slot sl with recalls := (w.slot sl).recalls.filter fun q =>
          !(q.shot == r.shot && q.kind == r.kind) }).recallGone r.shot r.kind).readEnds sl).settle))
  ∧ (∀ (s : State) (i n : Nat) (k : Pict) (host : Bool) (sh : Shot) (o : Obj), s.committed n = some (i, sh) → sh.obj k = some o →
    let holds : HoldSet := { o.holds with
      fill := false, host := o.holds.host || host,
      tether := o.holds.tether || s.tet.items.any fun m => m.shot == n && m.kind == k && m.waiting,
      develop := o.holds.develop || (k == .raw && s.dev.queue.any (·.shot == n)) }
    (s.completeRecalled i n k host).obj i k = if holds = {} then none else some { o with complete := true, holds := holds })

/-- A taken ENQUEUE of a picture that stands complete in the buffer, with no item of its shot and kind and fewer than
128 items, makes a READY item with the next number and sequence, the clamped priority raised for URGENT, the deadline
and the policy, and gives it. An item of the shot and kind takes the merge of R183 (OK_MERGED); with 128 items it is
FULL; a shot not BUFFERED or under a deletion is STATE. CANCEL_ITEM removes its item and gives the state it had, and a
number no item has is STATE. That the reply gives READY and the item as they stand before the link asks for an item is
the model's choice (log entry 16). (R180, R181, R182, R183, R184, R189, R194, R195.) -/
def Obligations.ItemsAreMadeMergedAndCancelled : Prop :=
  (∀ (s : State) (tag n i : Nat) (sh : Shot) (k : Pict) (priority : Nat) (deadline : Option Nat) (policy : Policy), s.Awake →
    s.committed n = some (i, sh) → sh.state = .buffered → sh.deleting = false → s.tet.items.find? (Item.is n k) = none →
    s.tet.items.length < 128 → (k = .thumb → sh.thumb ≠ none) → (k ≠ .thumb → (sh.obj k).any (·.complete) = true) →
    let p := if sh.urgent then max (min 31 priority) s.settings.tether.urgentLevel else min 31 priority
    exec (.enqueue tag n (some k) priority (some deadline) (some policy)) s
      = .next ((s.makeItem n k p deadline policy .host .ready).settle.pushReply 0xD2 tag (if 31 < priority then .okClamped else .ok)
          (le 4 s.tet.nextItem ++ [2] ++ le 1 p ++ opt (le 8) deadline ++ code Policy.all policy)))
  ∧ (∀ (s : State) (tag n i : Nat) (sh : Shot) (k : Pict) (priority : Nat) (deadline : Option Nat) (policy : Policy) (x : Item), s.Awake →
    s.committed n = some (i, sh) → sh.state = .buffered → sh.deleting = false → s.tet.items.find? (Item.is n k) = some x →
    let p := if sh.urgent then max (min 31 priority) s.settings.tether.urgentLevel else min 31 priority
    exec (.enqueue tag n (some k) priority (some deadline) (some policy)) s
      = .next ((s.mergeItem x p deadline policy).settle.pushReply 0xD2 tag .okMerged ((s.mergeItem x p deadline policy).itemBrief n k)))
  ∧ (∀ (s : State) (tag n : Nat) (k : Pict) (priority : Nat) (deadline : Option Nat) (policy : Policy), s.Awake → s.Steady →
    (s.committed n).any (fun e => e.2.unfit) = false → s.tet.items.find? (Item.is n k) = none → 128 ≤ s.tet.items.length →
    exec (.enqueue tag n (some k) priority (some deadline) (some policy)) s = .next (s.pushReply 0xD2 tag .full []))
  ∧ (∀ (s : State) (tag n i : Nat) (sh : Shot) (k : Pict) (priority : Nat) (deadline : Option Nat) (policy : Policy), s.Awake → s.Steady →
    s.committed n = some (i, sh) → (sh.state ≠ .buffered ∨ sh.deleting = true) →
    exec (.enqueue tag n (some k) priority (some deadline) (some policy)) s = .next (s.pushReply 0xD2 tag .state []))
  ∧ (∀ (s : State) (tag m : Nat) (x : Item), s.Awake → s.tet.items.find? (·.number == m) = some x →
    exec (.cancelItem tag m) s = .next ((s.removeItem x).settle.pushReply 0xD3 tag .ok
      (code ItemState.all x.state ++ opt (le 4) (if x.state = ItemState.sending then s.tet.transfer.map Transfer.acked else none))))
  ∧ (∀ (s : State) (tag m : Nat), s.Awake → s.Steady → s.tet.items.find? (·.number == m) = none →
    exec (.cancelItem tag m) s = .next (s.pushReply 0xD3 tag .state []))

/-- A merge leaves the item's number, shot, kind, sequence, origin, state, resume segment and overdue mark; its
priority becomes the greater of the two, its deadline the earlier (an absent one counting as later than any), and its
policy the one that came with the earlier deadline, its own when they are equal or both absent. Every other item is
unchanged. (R183.) -/
def Obligations.MergesKeepTheItem : Prop :=
  (∀ (x : Item) (priority : Nat) (deadline : Option Nat) (policy : Policy),
    let y := x.merge priority deadline policy
    y.number = x.number ∧ y.shot = x.shot ∧ y.kind = x.kind ∧ y.seq = x.seq ∧ y.origin = x.origin ∧ y.state = x.state
    ∧ y.resume = x.resume ∧ y.overdue = x.overdue ∧ y.entry = x.entry
    ∧ x.priority ≤ y.priority ∧ priority ≤ y.priority ∧ (y.priority = x.priority ∨ y.priority = priority)
    ∧ (∀ d, y.deadline = some d → (∀ e, x.deadline = some e → d ≤ e) ∧ (∀ e, deadline = some e → d ≤ e))
    ∧ (y.deadline = x.deadline ∨ y.deadline = deadline) ∧ (y.deadline = none ↔ x.deadline = none ∧ deadline = none)
    ∧ (y.deadline = x.deadline → y.policy = x.policy) ∧ (y.deadline ≠ x.deadline → y.policy = policy))
  ∧ (∀ (s : State) (x : Item) (priority : Nat) (deadline : Option Nat) (policy : Policy),
    (s.mergeItem x priority deadline policy).tet.items
      = s.tet.items.map fun y => if y.number = x.number then x.merge priority deadline policy else y)

/-- The item the queue hands over is READY, is admitted by RESTRICTED's urgent level, and no other READY item that is
admitted has a higher priority, or the same priority and a lower enqueue sequence; none is handed over exactly when no
READY item is admitted. (R160, R187.) -/
def Obligations.HandedItemIsFirstInOrder : Prop :=
  (∀ (s : State) (x : Item), s.selectItem = some x →
    x ∈ s.tet.items ∧ x.state = .ready ∧ (s.tet.state = .restricted → s.settings.tether.urgentLevel ≤ x.priority)
    ∧ ∀ y ∈ s.tet.items, y.state = .ready → (s.tet.state = .restricted → s.settings.tether.urgentLevel ≤ y.priority) →
        y.priority < x.priority ∨ (y.priority = x.priority ∧ x.seq ≤ y.seq))
  ∧ (∀ s : State, s.selectItem = none ↔
      ∀ y ∈ s.tet.items, y.state = .ready → s.tet.state = .restricted ∧ y.priority < s.settings.tether.urgentLevel)

/-- A taken ANSWER_PULL whose pull the inbox holds removes that pull. REFUSE sends PULL_REPLY refused; ACCEPT of a
list sends the LIST frame from its shot number on; ACCEPT of an object asks for an item of origin STATION with the
clamped priority, no deadline and KEEP, as R182 judges, sends PULL_REPLY with its answer, and gives the outcome and
the item made; for a picture that stands complete in the buffer, with no item of it and room, that makes a READY item
with the next number and sends PULL_REPLY accepted. The presence bytes of the reply are the model's reading (log entry
39), and so are giving them under OK (log entry 38) and giving the item as it stands before the link asks for it in
the same step (log entry 16). A pull the inbox does not hold is STATE. REJOIN clears both counters and the rejoin
count, makes the link LINKED when carrier and station are there, and gives the counters as they stood. (R166, R182,
R184, R199, R200, R201.) -/
def Obligations.PullsAreAnsweredAndTheLinkRejoined : Prop :=
  (∀ (s : State) (tag pull priority : Nat) (p : Pull), s.Awake → s.tet.inbox.find? (·.id == pull) = some p →
    exec (.answerPull tag pull (some .refuse) priority) s
      = .next ((({ s with tet := { s.tet with inbox := s.tet.inbox.filter fun q => q.id != p.id } }).pushTx
          (.pullReply p.id .refused)).settle.pushReply 0xD5 tag .ok [0, 0, 0, 0, 0, 0]))
  ∧ (∀ (s : State) (tag pull priority : Nat) (p : Pull), s.Awake → s.tet.inbox.find? (·.id == pull) = some p → p.kind = .list →
    exec (.answerPull tag pull (some .accept) priority) s
      = .next ((({ s with tet := { s.tet with inbox := s.tet.inbox.filter fun q => q.id != p.id } }).pushTx
          (s.listFrame p.id p.shot)).settle.pushReply 0xD5 tag .ok [0, 0, 0, 0, 0, 0]))
  ∧ (∀ (s : State) (tag pull priority : Nat) (p : Pull) (k : Pict), s.Awake → s.tet.inbox.find? (·.id == pull) = some p →
    p.kind = .pict k →
    let r := ({ s with tet := { s.tet with inbox := s.tet.inbox.filter fun q => q.id != p.id } }).requestItem p.shot k
      (min 31 priority) none .keep .station
    exec (.answerPull tag pull (some .accept) priority) s
      = .next ((r.1.pushTx (.pullReply p.id r.2.pullReply)).settle.pushReply 0xD5 tag
          (if r.2 = .merged then .okMerged else if 31 < priority then .okClamped else .ok)
          (answerFields (some r.2) (if r.2.made then r.1.tet.items.find? (Item.is p.shot k) else none))))
  ∧ (∀ (s : State) (tag pull priority i : Nat) (p : Pull) (sh : Shot) (k : Pict), s.Awake →
    s.tet.inbox.find? (·.id == pull) = some p → p.kind = .pict k → s.committed p.shot = some (i, sh) → sh.state = .buffered →
    sh.deleting = false → s.tet.items.find? (Item.is p.shot k) = none → s.tet.items.length < 128 →
    (k = .thumb → sh.thumb ≠ none) → (k ≠ .thumb → (sh.obj k).any (·.complete) = true) →
    let n := if sh.urgent then max (min 31 priority) s.settings.tether.urgentLevel else min 31 priority
    exec (.answerPull tag pull (some .accept) priority) s
      = .next (((({ s with tet := { s.tet with inbox := s.tet.inbox.filter fun q => q.id != p.id } }).makeItem p.shot k n none .keep
          .station .ready).pushTx (.pullReply p.id .accepted)).settle.pushReply 0xD5 tag (if 31 < priority then .okClamped else .ok)
          ([1, 0] ++ [1] ++ le 4 s.tet.nextItem ++ [1, 2] ++ [1] ++ le 1 n ++ [0] ++ [1] ++ code Policy.all .keep)))
  ∧ (∀ (s : State) (tag pull priority : Nat) (a : PullAnswer), s.Awake → s.Steady → s.tet.inbox.find? (·.id == pull) = none →
    exec (.answerPull tag pull (some a) priority) s = .next (s.pushReply 0xD5 tag .state []))
  ∧ (∀ (s : State) (tag : Nat), s.Awake →
    ∃ t, exec (.rejoin tag) s = .next t ∧ t.tet.tec = 0 ∧ t.tet.recErrors = 0 ∧ t.tet.rejoin = 0
      ∧ t.tet.state = (if s.tet.heard ∧ s.tet.carrier then LinkState.linked else s.tet.state)
      ∧ t.tet.carrier = s.tet.carrier ∧ t.tet.heard = s.tet.heard ∧ t.tet.lastBeacon = s.tet.lastBeacon
      ∧ t.settings = s.settings ∧ t.sup = s.sup
      ∧ t.link.replies = s.link.replies ++ [{
          kind := 0xD6, tag := tag,
          body := Status.byte .ok :: (le 2 s.tet.tec ++ le 1 s.tet.recErrors) }])

/-- Carrier up brings the link from DOWN to SEEKING; carrier down brings it to DOWN with the station unheard and no
loss timer. A good beacon of the station records its counter, status and time, makes the station heard and restarts
the loss timer of 1,000 ms; its expiry makes the station unheard and the link SEEKING. A bad frame raises REC by one
up to 255 and clears the rejoin count; a disregarded one has no effect. BEACON_LOSS carries the clock to its moment
(log entry 2); that a frame given as bytes is judged by the model is its choice (log entry 31). (R158, R161, R162,
R163, R165.) -/
def Obligations.CarrierAndBeaconsMoveTheLink : Prop :=
  (∀ s : State, s.held = false → s.tet.carrier = false →
    ∃ t, exec .carrierUp s = .next t ∧ t.tet.carrier = true ∧ t.tet.state = .seeking ∧ t.tet.tec = s.tet.tec
      ∧ t.tet.recErrors = s.tet.recErrors ∧ t.settings = s.settings ∧ t.sup = s.sup)
  ∧ (∀ s : State, s.held = false → s.tet.carrier = true →
    ∃ t, exec .carrierDown s = .next t ∧ t.tet.carrier = false ∧ t.tet.state = .down ∧ t.tet.heard = false ∧ t.tet.lossDue = none
      ∧ t.tet.rejoin = 0 ∧ t.tet.tec = s.tet.tec ∧ t.tet.recErrors = s.tet.recErrors ∧ t.settings = s.settings ∧ t.sup = s.sup)
  ∧ (∀ (s : State) (counter : Nat) (status : StationStatus), s.held = false → s.tet.carrier = true → s.settings.tether.station ≠ 0 →
    ∃ t, exec (.beaconReceived counter status) s = .next t ∧ t.tet.heard = true ∧ t.tet.lastBeacon = some counter
      ∧ t.tet.status = some status ∧ t.tet.beaconTime = some s.sup.timeBase ∧ t.tet.lossDue = some (s.sup.elapsed + 1000000)
      ∧ t.settings = s.settings ∧ t.sup = s.sup)
  ∧ (∀ (s : State) (due : Nat), s.held = false → s.tet.carrier = true → s.tet.heard = true → s.tet.lossDue = some due →
    ∃ t, exec .beaconLoss s = .next t ∧ t.tet.state = .seeking ∧ t.tet.heard = false ∧ t.tet.lossDue = none ∧ t.tet.rejoin = 0
      ∧ t.tet.tec = s.tet.tec ∧ t.tet.recErrors = s.tet.recErrors ∧ t.settings = s.settings ∧ t.sup = (s.carryTo due).sup)
  ∧ (∀ (s : State) (frame : List Byte), s.held = false → s.tet.carrier = true → judgeFrame s.settings.tether frame = .bad →
    ∃ t, exec (.relayFrameBad frame) s = .next t ∧ t.tet.recErrors = min 255 (s.tet.recErrors + 1) ∧ t.tet.rejoin = 0
      ∧ t.tet.tec = s.tet.tec ∧ t.tet.heard = s.tet.heard ∧ t.settings = s.settings ∧ t.sup = s.sup)
  ∧ (∀ (s : State) (frame : List Byte), s.held = false → s.Steady → s.tet.carrier = true →
    judgeFrame s.settings.tether frame = .disregarded → exec (.relayFrameDisregarded frame) s = .next s)

/-- Of a transfer in OFFERED, a good ACCEPT starts SENDING at its segment with its credit. A REFUSE with HAVE_IT
delivers it, and any other counts it declined. In SENDING, a good ACK of a later segment lowers TEC by one and one of
the last segment delivers the transfer; a good NAK raises TEC by 8, to at most 263. A PULL whose answer is not
automatic joins an inbox with room, out of DORMANT, with its priority kept as it came (log entry 44). Each of these
good frames lowers REC by one first. (R158, R163, R169, R171, R173, R174, R198, R200.) -/
def Obligations.StationFramesDriveTheTransfer : Prop :=
  (∀ (s : State) (x : Transfer) (start credit : Nat), s.held = false → s.tet.carrier = true → s.settings.tether.station ≠ 0 →
    s.goodFrame.tet.transfer = some x → s.tet.transfer = some x → x.state = .offered → start ≤ x.offered → 1 ≤ credit → credit ≤ 64 →
    exec (.acceptReceived x.id start credit) s
      = .next ({ s.goodFrame with tet := { s.goodFrame.tet with transfer := some { x with
          state := .sending, acked := start, next := start, mark := start, credit := credit, ackDue := none } } }).settle)
  ∧ (∀ (s : State) (x : Transfer), s.held = false → s.tet.carrier = true → s.settings.tether.station ≠ 0 →
    s.goodFrame.tet.transfer = some x → s.tet.transfer = some x →
    ∃ t, exec (.refuseReceived x.id .haveIt) s = .next t ∧ t.tet.delivered = (s.tet.delivered + 1) % 4294967296
      ∧ t.tet.declined = s.tet.declined ∧ t.tet.recErrors = s.tet.recErrors - 1 ∧ t.settings = s.settings ∧ t.sup = s.sup)
  ∧ (∀ (s : State) (x : Transfer) (r : RefuseReason), s.held = false → s.tet.carrier = true → s.settings.tether.station ≠ 0 →
    s.goodFrame.tet.transfer = some x → s.tet.transfer = some x → r ≠ .haveIt →
    ∃ t, exec (.refuseReceived x.id r) s = .next t ∧ t.tet.declined = (s.tet.declined + 1) % 4294967296
      ∧ t.tet.delivered = s.tet.delivered ∧ t.tet.recErrors = s.tet.recErrors - 1 ∧ t.settings = s.settings ∧ t.sup = s.sup)
  ∧ (∀ (s : State) (x : Transfer) (index credit : Nat), s.held = false → s.tet.carrier = true → s.settings.tether.station ≠ 0 →
    s.goodFrame.tet.transfer = some x → s.tet.transfer = some x → x.state = .sending → x.acked < index → index ≤ x.mark →
    1 ≤ credit → credit ≤ 64 → s.tet.tec ≤ 256 →
    ∃ t, exec (.ackReceived x.id index credit) s = .next t ∧ t.tet.tec = s.tet.tec - 1
      ∧ t.tet.delivered = (if index = x.segments then (s.tet.delivered + 1) % 4294967296 else s.tet.delivered)
      ∧ t.tet.recErrors = s.tet.recErrors - 1 ∧ t.settings = s.settings ∧ t.sup = s.sup)
  ∧ (∀ (s : State) (x : Transfer) (index : Nat), s.held = false → s.tet.carrier = true → s.settings.tether.station ≠ 0 →
    s.goodFrame.tet.transfer = some x → s.tet.transfer = some x → x.state = .sending → x.acked ≤ index → index < x.mark →
    ∃ t, exec (.nakReceived x.id index) s = .next t ∧ t.tet.tec = min 263 (s.tet.tec + 8)
      ∧ t.tet.delivered = s.tet.delivered ∧ t.tet.recErrors = s.tet.recErrors - 1 ∧ t.settings = s.settings ∧ t.sup = s.sup)
  ∧ (∀ (s : State) (pull n priority : Nat) (k : PullKind), s.held = false → s.tet.carrier = true → s.settings.tether.station ≠ 0 →
    s.sup.power ≠ .dormant → (∀ q ∈ s.tet.inbox, q.id ≠ pull) → s.settings.tether.autoAnswer k = false → s.tet.inbox.length < 8 →
    ∃ t, exec (.pullReceived pull k n priority) s = .next t
      ∧ t.tet.inbox = s.tet.inbox ++ [{ id := pull, kind := k, shot := n, priority := priority, time := s.sup.timeBase }]
      ∧ t.tet.recErrors = s.tet.recErrors - 1 ∧ t.settings = s.settings ∧ t.sup = s.sup)

/-- The ack timer in OFFERED or SENDING raises TEC by 8 up to 263. A free port sends the oldest control frame; with
none it sends the next segment the credit allows, starting the ack timer when nothing was outstanding; with neither it
sends nothing: no transfer, a transfer still OFFERED, no credit left, or every segment sent. A deadline's expiry marks
a KEEP item overdue with TETHER_OVERDUE, and counts and removes a DROP item with TETHER_EXPIRED. The timers and
deadlines carry the clock to their moments (log entry 2), and the frame the port sends is kept as it was sent (log
entry 32). (R159, R163, R168, R170, R172, R190.) -/
def Obligations.TransferTimersThePortAndDeadlines : Prop :=
  (∀ (s : State) (x : Transfer) (due : Nat), s.held = false → s.tet.transfer = some x → x.state = .offered → x.ackDue = some due →
    ∃ t, exec .offerTimeout s = .next t ∧ t.tet.tec = min 263 (s.tet.tec + 8) ∧ t.tet.recErrors = s.tet.recErrors
      ∧ t.settings = s.settings ∧ t.sup = (s.carryTo due).sup)
  ∧ (∀ (s : State) (x : Transfer) (due : Nat), s.held = false → s.tet.transfer = some x → x.state = .sending → x.ackDue = some due →
    ∃ t, exec .ackTimeout s = .next t ∧ t.tet.tec = min 263 (s.tet.tec + 8) ∧ t.tet.recErrors = s.tet.recErrors
      ∧ t.settings = s.settings ∧ t.sup = (s.carryTo due).sup)
  ∧ (∀ (s : State) (f : RelayFrame) (fs : List RelayFrame), s.held = false → s.tet.tx = f :: fs →
    exec .portFree s = .next ({ s with tet := { s.tet with tx := fs, wire := some (f.bytes s.settings.tether) } }).settle)
  ∧ (∀ (s : State) (x : Transfer), s.held = false → s.tet.tx = [] → s.tet.transfer = some x → x.state = .sending →
    x.next - x.acked < s.effectiveCredit x → x.next < x.segments →
    exec .portFree s = .next ({ s with tet := { s.tet with
      wire := some ((s.segment x).bytes s.settings.tether),
      transfer := some { x with
        next := x.next + 1, mark := max x.mark (x.next + 1),
        ackDue := if x.next = x.acked then some (s.sup.elapsed + 1000 * s.settings.tether.ackTimeout) else x.ackDue } } }).settle)
  ∧ (∀ s : State, s.held = false → s.tet.tx = [] → s.tet.transfer = none →
    exec .portFree s = .next ({ s with tet := { s.tet with wire := none } }).settle)
  ∧ (∀ (s : State) (x : Transfer), s.held = false → s.tet.tx = [] → s.tet.transfer = some x →
    (x.state ≠ .sending ∨ s.effectiveCredit x ≤ x.next - x.acked ∨ x.segments ≤ x.next) →
    exec .portFree s = .next ({ s with tet := { s.tet with wire := none } }).settle)
  ∧ (∀ (s : State) (m d : Nat) (x : Item), s.held = false → s.tet.items.find? (·.number == m) = some x → x.deadline = some d → d < 2 ^ 64 →
    x.policy = .keep → x.overdue = false →
    let y := s.carryToTime d
    exec (.deadlineExpiry m) s = .next ((({ y with tet := { y.tet with
      items := y.tet.items.map fun z : Item => if z.number = m then { z with overdue := true } else z } }).raise .tetherOverdue
      (le 4 x.number ++ le 4 x.shot ++ code Pict.all x.kind ++ le 8 d ++ code ItemState.all x.state)).settle))
  ∧ (∀ (s : State) (m d : Nat) (x : Item), s.held = false → s.tet.items.find? (·.number == m) = some x → x.deadline = some d → d < 2 ^ 64 →
    x.policy = .drop →
    let y := s.carryToTime d
    exec (.deadlineExpiry m) s = .next (((({ y with tet := { y.tet with expired := (s.tet.expired + 1) % 4294967296 } }).raise .tetherExpired
      (le 4 x.number ++ le 4 x.shot ++ code Pict.all x.kind ++ le 8 d ++ code ItemState.all x.state
        ++ opt (le 4) (if x.state = ItemState.sending then s.tet.transfer.map Transfer.acked else none))).removeItem x).settle))
end

