-- ==== Sys2Proof/Laws/State.lean ====
section
/-! SUPPORT. Each block of the state after each block has been set: one lemma per field per update, so that no proof
unfolds a record update. -/

namespace Sys2Proof.Machine
open Sys2Proof

/-! ### After `setPending` -/

@[simp] theorem State.setPending_pending (s : State) (q : List Instr) : (s.setPending q).pending = q := rfl
@[simp] theorem State.setPending_notices (s : State) (q : List Instr) : (s.setPending q).notices = s.notices := rfl
@[simp] theorem State.setPending_pins (s : State) (q : List Instr) : (s.setPending q).pins = s.pins := rfl
@[simp] theorem State.setPending_link (s : State) (q : List Instr) : (s.setPending q).link = s.link := rfl
@[simp] theorem State.setPending_sup (s : State) (q : List Instr) : (s.setPending q).sup = s.sup := rfl
@[simp] theorem State.setPending_cap (s : State) (q : List Instr) : (s.setPending q).cap = s.cap := rfl
@[simp] theorem State.setPending_foc (s : State) (q : List Instr) : (s.setPending q).foc = s.foc := rfl
@[simp] theorem State.setPending_sbm (s : State) (q : List Instr) : (s.setPending q).sbm = s.sbm := rfl
@[simp] theorem State.setPending_dev (s : State) (q : List Instr) : (s.setPending q).dev = s.dev := rfl
@[simp] theorem State.setPending_crd (s : State) (q : List Instr) : (s.setPending q).crd = s.crd := rfl
@[simp] theorem State.setPending_tet (s : State) (q : List Instr) : (s.setPending q).tet = s.tet := rfl
@[simp] theorem State.setPending_settings (s : State) (q : List Instr) : (s.setPending q).settings = s.settings := rfl
@[simp] theorem State.setPending_setPending (s : State) (q q' : List Instr) : (s.setPending q).setPending q' = s.setPending q' := rfl
@[simp] theorem State.setPending_same (s : State) : s.setPending s.pending = s := rfl

/-! ### After `setNotices` -/

@[simp] theorem State.setNotices_pending (s : State) (n : List Notice) : (s.setNotices n).pending = s.pending := rfl
@[simp] theorem State.setNotices_notices (s : State) (n : List Notice) : (s.setNotices n).notices = n := rfl
@[simp] theorem State.setNotices_pins (s : State) (n : List Notice) : (s.setNotices n).pins = s.pins := rfl
@[simp] theorem State.setNotices_link (s : State) (n : List Notice) : (s.setNotices n).link = s.link := rfl
@[simp] theorem State.setNotices_sup (s : State) (n : List Notice) : (s.setNotices n).sup = s.sup := rfl
@[simp] theorem State.setNotices_cap (s : State) (n : List Notice) : (s.setNotices n).cap = s.cap := rfl
@[simp] theorem State.setNotices_foc (s : State) (n : List Notice) : (s.setNotices n).foc = s.foc := rfl
@[simp] theorem State.setNotices_sbm (s : State) (n : List Notice) : (s.setNotices n).sbm = s.sbm := rfl
@[simp] theorem State.setNotices_dev (s : State) (n : List Notice) : (s.setNotices n).dev = s.dev := rfl
@[simp] theorem State.setNotices_crd (s : State) (n : List Notice) : (s.setNotices n).crd = s.crd := rfl
@[simp] theorem State.setNotices_tet (s : State) (n : List Notice) : (s.setNotices n).tet = s.tet := rfl
@[simp] theorem State.setNotices_settings (s : State) (n : List Notice) : (s.setNotices n).settings = s.settings := rfl
@[simp] theorem State.setNotices_setNotices (s : State) (n n' : List Notice) : (s.setNotices n).setNotices n' = s.setNotices n' := rfl
@[simp] theorem State.setNotices_same (s : State) : s.setNotices s.notices = s := rfl

/-! ### After `setPins` -/

@[simp] theorem State.setPins_pending (s : State) (p : Pins) : (s.setPins p).pending = s.pending := rfl
@[simp] theorem State.setPins_notices (s : State) (p : Pins) : (s.setPins p).notices = s.notices := rfl
@[simp] theorem State.setPins_pins (s : State) (p : Pins) : (s.setPins p).pins = p := rfl
@[simp] theorem State.setPins_link (s : State) (p : Pins) : (s.setPins p).link = s.link := rfl
@[simp] theorem State.setPins_sup (s : State) (p : Pins) : (s.setPins p).sup = s.sup := rfl
@[simp] theorem State.setPins_cap (s : State) (p : Pins) : (s.setPins p).cap = s.cap := rfl
@[simp] theorem State.setPins_foc (s : State) (p : Pins) : (s.setPins p).foc = s.foc := rfl
@[simp] theorem State.setPins_sbm (s : State) (p : Pins) : (s.setPins p).sbm = s.sbm := rfl
@[simp] theorem State.setPins_dev (s : State) (p : Pins) : (s.setPins p).dev = s.dev := rfl
@[simp] theorem State.setPins_crd (s : State) (p : Pins) : (s.setPins p).crd = s.crd := rfl
@[simp] theorem State.setPins_tet (s : State) (p : Pins) : (s.setPins p).tet = s.tet := rfl
@[simp] theorem State.setPins_settings (s : State) (p : Pins) : (s.setPins p).settings = s.settings := rfl
@[simp] theorem State.setPins_setPins (s : State) (p p' : Pins) : (s.setPins p).setPins p' = s.setPins p' := rfl
@[simp] theorem State.setPins_same (s : State) : s.setPins s.pins = s := rfl

/-! ### After `setLink` -/

@[simp] theorem State.setLink_pending (s : State) (l : Link) : (s.setLink l).pending = s.pending := rfl
@[simp] theorem State.setLink_notices (s : State) (l : Link) : (s.setLink l).notices = s.notices := rfl
@[simp] theorem State.setLink_pins (s : State) (l : Link) : (s.setLink l).pins = s.pins := rfl
@[simp] theorem State.setLink_link (s : State) (l : Link) : (s.setLink l).link = l := rfl
@[simp] theorem State.setLink_sup (s : State) (l : Link) : (s.setLink l).sup = s.sup := rfl
@[simp] theorem State.setLink_cap (s : State) (l : Link) : (s.setLink l).cap = s.cap := rfl
@[simp] theorem State.setLink_foc (s : State) (l : Link) : (s.setLink l).foc = s.foc := rfl
@[simp] theorem State.setLink_sbm (s : State) (l : Link) : (s.setLink l).sbm = s.sbm := rfl
@[simp] theorem State.setLink_dev (s : State) (l : Link) : (s.setLink l).dev = s.dev := rfl
@[simp] theorem State.setLink_crd (s : State) (l : Link) : (s.setLink l).crd = s.crd := rfl
@[simp] theorem State.setLink_tet (s : State) (l : Link) : (s.setLink l).tet = s.tet := rfl
@[simp] theorem State.setLink_settings (s : State) (l : Link) : (s.setLink l).settings = s.settings := rfl
@[simp] theorem State.setLink_setLink (s : State) (l l' : Link) : (s.setLink l).setLink l' = s.setLink l' := rfl
@[simp] theorem State.setLink_same (s : State) : s.setLink s.link = s := rfl

/-! ### After `setSup` -/

@[simp] theorem State.setSup_pending (s : State) (u : Sup) : (s.setSup u).pending = s.pending := rfl
@[simp] theorem State.setSup_notices (s : State) (u : Sup) : (s.setSup u).notices = s.notices := rfl
@[simp] theorem State.setSup_pins (s : State) (u : Sup) : (s.setSup u).pins = s.pins := rfl
@[simp] theorem State.setSup_link (s : State) (u : Sup) : (s.setSup u).link = s.link := rfl
@[simp] theorem State.setSup_sup (s : State) (u : Sup) : (s.setSup u).sup = u := rfl
@[simp] theorem State.setSup_cap (s : State) (u : Sup) : (s.setSup u).cap = s.cap := rfl
@[simp] theorem State.setSup_foc (s : State) (u : Sup) : (s.setSup u).foc = s.foc := rfl
@[simp] theorem State.setSup_sbm (s : State) (u : Sup) : (s.setSup u).sbm = s.sbm := rfl
@[simp] theorem State.setSup_dev (s : State) (u : Sup) : (s.setSup u).dev = s.dev := rfl
@[simp] theorem State.setSup_crd (s : State) (u : Sup) : (s.setSup u).crd = s.crd := rfl
@[simp] theorem State.setSup_tet (s : State) (u : Sup) : (s.setSup u).tet = s.tet := rfl
@[simp] theorem State.setSup_settings (s : State) (u : Sup) : (s.setSup u).settings = s.settings := rfl
@[simp] theorem State.setSup_setSup (s : State) (u u' : Sup) : (s.setSup u).setSup u' = s.setSup u' := rfl
@[simp] theorem State.setSup_same (s : State) : s.setSup s.sup = s := rfl

/-! ### After `setCap` -/

@[simp] theorem State.setCap_pending (s : State) (c : Cap) : (s.setCap c).pending = s.pending := rfl
@[simp] theorem State.setCap_notices (s : State) (c : Cap) : (s.setCap c).notices = s.notices := rfl
@[simp] theorem State.setCap_pins (s : State) (c : Cap) : (s.setCap c).pins = s.pins := rfl
@[simp] theorem State.setCap_link (s : State) (c : Cap) : (s.setCap c).link = s.link := rfl
@[simp] theorem State.setCap_sup (s : State) (c : Cap) : (s.setCap c).sup = s.sup := rfl
@[simp] theorem State.setCap_cap (s : State) (c : Cap) : (s.setCap c).cap = c := rfl
@[simp] theorem State.setCap_foc (s : State) (c : Cap) : (s.setCap c).foc = s.foc := rfl
@[simp] theorem State.setCap_sbm (s : State) (c : Cap) : (s.setCap c).sbm = s.sbm := rfl
@[simp] theorem State.setCap_dev (s : State) (c : Cap) : (s.setCap c).dev = s.dev := rfl
@[simp] theorem State.setCap_crd (s : State) (c : Cap) : (s.setCap c).crd = s.crd := rfl
@[simp] theorem State.setCap_tet (s : State) (c : Cap) : (s.setCap c).tet = s.tet := rfl
@[simp] theorem State.setCap_settings (s : State) (c : Cap) : (s.setCap c).settings = s.settings := rfl
@[simp] theorem State.setCap_setCap (s : State) (c c' : Cap) : (s.setCap c).setCap c' = s.setCap c' := rfl
@[simp] theorem State.setCap_same (s : State) : s.setCap s.cap = s := rfl

/-! ### After `setFoc` -/

@[simp] theorem State.setFoc_pending (s : State) (f : Foc) : (s.setFoc f).pending = s.pending := rfl
@[simp] theorem State.setFoc_notices (s : State) (f : Foc) : (s.setFoc f).notices = s.notices := rfl
@[simp] theorem State.setFoc_pins (s : State) (f : Foc) : (s.setFoc f).pins = s.pins := rfl
@[simp] theorem State.setFoc_link (s : State) (f : Foc) : (s.setFoc f).link = s.link := rfl
@[simp] theorem State.setFoc_sup (s : State) (f : Foc) : (s.setFoc f).sup = s.sup := rfl
@[simp] theorem State.setFoc_cap (s : State) (f : Foc) : (s.setFoc f).cap = s.cap := rfl
@[simp] theorem State.setFoc_foc (s : State) (f : Foc) : (s.setFoc f).foc = f := rfl
@[simp] theorem State.setFoc_sbm (s : State) (f : Foc) : (s.setFoc f).sbm = s.sbm := rfl
@[simp] theorem State.setFoc_dev (s : State) (f : Foc) : (s.setFoc f).dev = s.dev := rfl
@[simp] theorem State.setFoc_crd (s : State) (f : Foc) : (s.setFoc f).crd = s.crd := rfl
@[simp] theorem State.setFoc_tet (s : State) (f : Foc) : (s.setFoc f).tet = s.tet := rfl
@[simp] theorem State.setFoc_settings (s : State) (f : Foc) : (s.setFoc f).settings = s.settings := rfl
@[simp] theorem State.setFoc_setFoc (s : State) (f f' : Foc) : (s.setFoc f).setFoc f' = s.setFoc f' := rfl
@[simp] theorem State.setFoc_same (s : State) : s.setFoc s.foc = s := rfl

/-! ### After `setSbm` -/

@[simp] theorem State.setSbm_pending (s : State) (b : Sbm) : (s.setSbm b).pending = s.pending := rfl
@[simp] theorem State.setSbm_notices (s : State) (b : Sbm) : (s.setSbm b).notices = s.notices := rfl
@[simp] theorem State.setSbm_pins (s : State) (b : Sbm) : (s.setSbm b).pins = s.pins := rfl
@[simp] theorem State.setSbm_link (s : State) (b : Sbm) : (s.setSbm b).link = s.link := rfl
@[simp] theorem State.setSbm_sup (s : State) (b : Sbm) : (s.setSbm b).sup = s.sup := rfl
@[simp] theorem State.setSbm_cap (s : State) (b : Sbm) : (s.setSbm b).cap = s.cap := rfl
@[simp] theorem State.setSbm_foc (s : State) (b : Sbm) : (s.setSbm b).foc = s.foc := rfl
@[simp] theorem State.setSbm_sbm (s : State) (b : Sbm) : (s.setSbm b).sbm = b := rfl
@[simp] theorem State.setSbm_dev (s : State) (b : Sbm) : (s.setSbm b).dev = s.dev := rfl
@[simp] theorem State.setSbm_crd (s : State) (b : Sbm) : (s.setSbm b).crd = s.crd := rfl
@[simp] theorem State.setSbm_tet (s : State) (b : Sbm) : (s.setSbm b).tet = s.tet := rfl
@[simp] theorem State.setSbm_settings (s : State) (b : Sbm) : (s.setSbm b).settings = s.settings := rfl
@[simp] theorem State.setSbm_setSbm (s : State) (b b' : Sbm) : (s.setSbm b).setSbm b' = s.setSbm b' := rfl
@[simp] theorem State.setSbm_same (s : State) : s.setSbm s.sbm = s := rfl

/-! ### After `setDev` -/

@[simp] theorem State.setDev_pending (s : State) (d : Dev) : (s.setDev d).pending = s.pending := rfl
@[simp] theorem State.setDev_notices (s : State) (d : Dev) : (s.setDev d).notices = s.notices := rfl
@[simp] theorem State.setDev_pins (s : State) (d : Dev) : (s.setDev d).pins = s.pins := rfl
@[simp] theorem State.setDev_link (s : State) (d : Dev) : (s.setDev d).link = s.link := rfl
@[simp] theorem State.setDev_sup (s : State) (d : Dev) : (s.setDev d).sup = s.sup := rfl
@[simp] theorem State.setDev_cap (s : State) (d : Dev) : (s.setDev d).cap = s.cap := rfl
@[simp] theorem State.setDev_foc (s : State) (d : Dev) : (s.setDev d).foc = s.foc := rfl
@[simp] theorem State.setDev_sbm (s : State) (d : Dev) : (s.setDev d).sbm = s.sbm := rfl
@[simp] theorem State.setDev_dev (s : State) (d : Dev) : (s.setDev d).dev = d := rfl
@[simp] theorem State.setDev_crd (s : State) (d : Dev) : (s.setDev d).crd = s.crd := rfl
@[simp] theorem State.setDev_tet (s : State) (d : Dev) : (s.setDev d).tet = s.tet := rfl
@[simp] theorem State.setDev_settings (s : State) (d : Dev) : (s.setDev d).settings = s.settings := rfl
@[simp] theorem State.setDev_setDev (s : State) (d d' : Dev) : (s.setDev d).setDev d' = s.setDev d' := rfl
@[simp] theorem State.setDev_same (s : State) : s.setDev s.dev = s := rfl

/-! ### After `setCrd` -/

@[simp] theorem State.setCrd_pending (s : State) (c : Crd) : (s.setCrd c).pending = s.pending := rfl
@[simp] theorem State.setCrd_notices (s : State) (c : Crd) : (s.setCrd c).notices = s.notices := rfl
@[simp] theorem State.setCrd_pins (s : State) (c : Crd) : (s.setCrd c).pins = s.pins := rfl
@[simp] theorem State.setCrd_link (s : State) (c : Crd) : (s.setCrd c).link = s.link := rfl
@[simp] theorem State.setCrd_sup (s : State) (c : Crd) : (s.setCrd c).sup = s.sup := rfl
@[simp] theorem State.setCrd_cap (s : State) (c : Crd) : (s.setCrd c).cap = s.cap := rfl
@[simp] theorem State.setCrd_foc (s : State) (c : Crd) : (s.setCrd c).foc = s.foc := rfl
@[simp] theorem State.setCrd_sbm (s : State) (c : Crd) : (s.setCrd c).sbm = s.sbm := rfl
@[simp] theorem State.setCrd_dev (s : State) (c : Crd) : (s.setCrd c).dev = s.dev := rfl
@[simp] theorem State.setCrd_crd (s : State) (c : Crd) : (s.setCrd c).crd = c := rfl
@[simp] theorem State.setCrd_tet (s : State) (c : Crd) : (s.setCrd c).tet = s.tet := rfl
@[simp] theorem State.setCrd_settings (s : State) (c : Crd) : (s.setCrd c).settings = s.settings := rfl
@[simp] theorem State.setCrd_setCrd (s : State) (c c' : Crd) : (s.setCrd c).setCrd c' = s.setCrd c' := rfl
@[simp] theorem State.setCrd_same (s : State) : s.setCrd s.crd = s := rfl

/-! ### After `setTet` -/

@[simp] theorem State.setTet_pending (s : State) (t : Tet) : (s.setTet t).pending = s.pending := rfl
@[simp] theorem State.setTet_notices (s : State) (t : Tet) : (s.setTet t).notices = s.notices := rfl
@[simp] theorem State.setTet_pins (s : State) (t : Tet) : (s.setTet t).pins = s.pins := rfl
@[simp] theorem State.setTet_link (s : State) (t : Tet) : (s.setTet t).link = s.link := rfl
@[simp] theorem State.setTet_sup (s : State) (t : Tet) : (s.setTet t).sup = s.sup := rfl
@[simp] theorem State.setTet_cap (s : State) (t : Tet) : (s.setTet t).cap = s.cap := rfl
@[simp] theorem State.setTet_foc (s : State) (t : Tet) : (s.setTet t).foc = s.foc := rfl
@[simp] theorem State.setTet_sbm (s : State) (t : Tet) : (s.setTet t).sbm = s.sbm := rfl
@[simp] theorem State.setTet_dev (s : State) (t : Tet) : (s.setTet t).dev = s.dev := rfl
@[simp] theorem State.setTet_crd (s : State) (t : Tet) : (s.setTet t).crd = s.crd := rfl
@[simp] theorem State.setTet_tet (s : State) (t : Tet) : (s.setTet t).tet = t := rfl
@[simp] theorem State.setTet_settings (s : State) (t : Tet) : (s.setTet t).settings = s.settings := rfl
@[simp] theorem State.setTet_setTet (s : State) (t t' : Tet) : (s.setTet t).setTet t' = s.setTet t' := rfl
@[simp] theorem State.setTet_same (s : State) : s.setTet s.tet = s := rfl

/-! ### After `setSettings` -/

@[simp] theorem State.setSettings_pending (s : State) (g : Settings) : (s.setSettings g).pending = s.pending := rfl
@[simp] theorem State.setSettings_notices (s : State) (g : Settings) : (s.setSettings g).notices = s.notices := rfl
@[simp] theorem State.setSettings_pins (s : State) (g : Settings) : (s.setSettings g).pins = s.pins := rfl
@[simp] theorem State.setSettings_link (s : State) (g : Settings) : (s.setSettings g).link = s.link := rfl
@[simp] theorem State.setSettings_sup (s : State) (g : Settings) : (s.setSettings g).sup = s.sup := rfl
@[simp] theorem State.setSettings_cap (s : State) (g : Settings) : (s.setSettings g).cap = s.cap := rfl
@[simp] theorem State.setSettings_foc (s : State) (g : Settings) : (s.setSettings g).foc = s.foc := rfl
@[simp] theorem State.setSettings_sbm (s : State) (g : Settings) : (s.setSettings g).sbm = s.sbm := rfl
@[simp] theorem State.setSettings_dev (s : State) (g : Settings) : (s.setSettings g).dev = s.dev := rfl
@[simp] theorem State.setSettings_crd (s : State) (g : Settings) : (s.setSettings g).crd = s.crd := rfl
@[simp] theorem State.setSettings_tet (s : State) (g : Settings) : (s.setSettings g).tet = s.tet := rfl
@[simp] theorem State.setSettings_settings (s : State) (g : Settings) : (s.setSettings g).settings = g := rfl
@[simp] theorem State.setSettings_setSettings (s : State) (g g' : Settings) : (s.setSettings g).setSettings g' = s.setSettings g' := rfl
@[simp] theorem State.setSettings_same (s : State) : s.setSettings s.settings = s := rfl

end Sys2Proof.Machine
end

