-- ==== Sys2Proof/Laws/Ops.lean ====
section
/-! SUPPORT. What each operation of Ops.lean can do: the blocks it leaves as they were, one lemma per block, and then what
it does to the block it changes. -/

namespace Sys2Proof.Machine
open Sys2Proof

/-! ### Blocks that `notify` leaves alone -/

@[simp] theorem State.notify_pending (s : State) (n : Notice) : (s.notify n).pending = s.pending := by unfold State.notify; split <;> rfl
@[simp] theorem State.notify_pins (s : State) (n : Notice) : (s.notify n).pins = s.pins := by unfold State.notify; split <;> rfl
@[simp] theorem State.notify_link (s : State) (n : Notice) : (s.notify n).link = s.link := by unfold State.notify; split <;> rfl
@[simp] theorem State.notify_sup (s : State) (n : Notice) : (s.notify n).sup = s.sup := by unfold State.notify; split <;> rfl
@[simp] theorem State.notify_cap (s : State) (n : Notice) : (s.notify n).cap = s.cap := by unfold State.notify; split <;> rfl
@[simp] theorem State.notify_foc (s : State) (n : Notice) : (s.notify n).foc = s.foc := by unfold State.notify; split <;> rfl
@[simp] theorem State.notify_sbm (s : State) (n : Notice) : (s.notify n).sbm = s.sbm := by unfold State.notify; split <;> rfl
@[simp] theorem State.notify_dev (s : State) (n : Notice) : (s.notify n).dev = s.dev := by unfold State.notify; split <;> rfl
@[simp] theorem State.notify_crd (s : State) (n : Notice) : (s.notify n).crd = s.crd := by unfold State.notify; split <;> rfl
@[simp] theorem State.notify_tet (s : State) (n : Notice) : (s.notify n).tet = s.tet := by unfold State.notify; split <;> rfl
@[simp] theorem State.notify_settings (s : State) (n : Notice) : (s.notify n).settings = s.settings := by unfold State.notify; split <;> rfl

/-! ### Blocks that `elapse` leaves alone -/

@[simp] theorem State.elapse_pending (s : State) (d : Nat) : (s.elapse d).pending = s.pending := rfl
@[simp] theorem State.elapse_notices (s : State) (d : Nat) : (s.elapse d).notices = s.notices := rfl
@[simp] theorem State.elapse_pins (s : State) (d : Nat) : (s.elapse d).pins = s.pins := rfl
@[simp] theorem State.elapse_link (s : State) (d : Nat) : (s.elapse d).link = s.link := rfl
@[simp] theorem State.elapse_cap (s : State) (d : Nat) : (s.elapse d).cap = s.cap := rfl
@[simp] theorem State.elapse_foc (s : State) (d : Nat) : (s.elapse d).foc = s.foc := rfl
@[simp] theorem State.elapse_sbm (s : State) (d : Nat) : (s.elapse d).sbm = s.sbm := rfl
@[simp] theorem State.elapse_dev (s : State) (d : Nat) : (s.elapse d).dev = s.dev := rfl
@[simp] theorem State.elapse_crd (s : State) (d : Nat) : (s.elapse d).crd = s.crd := rfl
@[simp] theorem State.elapse_tet (s : State) (d : Nat) : (s.elapse d).tet = s.tet := rfl
@[simp] theorem State.elapse_settings (s : State) (d : Nat) : (s.elapse d).settings = s.settings := rfl

/-! ### Blocks that `carryTo` leaves alone -/

@[simp] theorem State.carryTo_pending (s : State) (d : Nat) : (s.carryTo d).pending = s.pending := by unfold State.carryTo; split <;> rfl
@[simp] theorem State.carryTo_notices (s : State) (d : Nat) : (s.carryTo d).notices = s.notices := by unfold State.carryTo; split <;> rfl
@[simp] theorem State.carryTo_pins (s : State) (d : Nat) : (s.carryTo d).pins = s.pins := by unfold State.carryTo; split <;> rfl
@[simp] theorem State.carryTo_link (s : State) (d : Nat) : (s.carryTo d).link = s.link := by unfold State.carryTo; split <;> rfl
@[simp] theorem State.carryTo_cap (s : State) (d : Nat) : (s.carryTo d).cap = s.cap := by unfold State.carryTo; split <;> rfl
@[simp] theorem State.carryTo_foc (s : State) (d : Nat) : (s.carryTo d).foc = s.foc := by unfold State.carryTo; split <;> rfl
@[simp] theorem State.carryTo_sbm (s : State) (d : Nat) : (s.carryTo d).sbm = s.sbm := by unfold State.carryTo; split <;> rfl
@[simp] theorem State.carryTo_dev (s : State) (d : Nat) : (s.carryTo d).dev = s.dev := by unfold State.carryTo; split <;> rfl
@[simp] theorem State.carryTo_crd (s : State) (d : Nat) : (s.carryTo d).crd = s.crd := by unfold State.carryTo; split <;> rfl
@[simp] theorem State.carryTo_tet (s : State) (d : Nat) : (s.carryTo d).tet = s.tet := by unfold State.carryTo; split <;> rfl
@[simp] theorem State.carryTo_settings (s : State) (d : Nat) : (s.carryTo d).settings = s.settings := by unfold State.carryTo; split <;> rfl

/-! ### Blocks that `carryToTime` leaves alone -/

@[simp] theorem State.carryToTime_pending (s : State) (t : Nat) : (s.carryToTime t).pending = s.pending := by unfold State.carryToTime; split <;> rfl
@[simp] theorem State.carryToTime_notices (s : State) (t : Nat) : (s.carryToTime t).notices = s.notices := by unfold State.carryToTime; split <;> rfl
@[simp] theorem State.carryToTime_pins (s : State) (t : Nat) : (s.carryToTime t).pins = s.pins := by unfold State.carryToTime; split <;> rfl
@[simp] theorem State.carryToTime_link (s : State) (t : Nat) : (s.carryToTime t).link = s.link := by unfold State.carryToTime; split <;> rfl
@[simp] theorem State.carryToTime_cap (s : State) (t : Nat) : (s.carryToTime t).cap = s.cap := by unfold State.carryToTime; split <;> rfl
@[simp] theorem State.carryToTime_foc (s : State) (t : Nat) : (s.carryToTime t).foc = s.foc := by unfold State.carryToTime; split <;> rfl
@[simp] theorem State.carryToTime_sbm (s : State) (t : Nat) : (s.carryToTime t).sbm = s.sbm := by unfold State.carryToTime; split <;> rfl
@[simp] theorem State.carryToTime_dev (s : State) (t : Nat) : (s.carryToTime t).dev = s.dev := by unfold State.carryToTime; split <;> rfl
@[simp] theorem State.carryToTime_crd (s : State) (t : Nat) : (s.carryToTime t).crd = s.crd := by unfold State.carryToTime; split <;> rfl
@[simp] theorem State.carryToTime_tet (s : State) (t : Nat) : (s.carryToTime t).tet = s.tet := by unfold State.carryToTime; split <;> rfl
@[simp] theorem State.carryToTime_settings (s : State) (t : Nat) : (s.carryToTime t).settings = s.settings := by unfold State.carryToTime; split <;> rfl

/-! ### Blocks that `raise` leaves alone -/

@[simp] theorem State.raise_pending (s : State) (k : ReportKind) (fs : List Byte) : (s.raise k fs).pending = s.pending := by unfold State.raise; split <;> rfl
@[simp] theorem State.raise_notices (s : State) (k : ReportKind) (fs : List Byte) : (s.raise k fs).notices = s.notices := by unfold State.raise; split <;> rfl
@[simp] theorem State.raise_pins (s : State) (k : ReportKind) (fs : List Byte) : (s.raise k fs).pins = s.pins := by unfold State.raise; split <;> rfl
@[simp] theorem State.raise_sup (s : State) (k : ReportKind) (fs : List Byte) : (s.raise k fs).sup = s.sup := by unfold State.raise; split <;> rfl
@[simp] theorem State.raise_cap (s : State) (k : ReportKind) (fs : List Byte) : (s.raise k fs).cap = s.cap := by unfold State.raise; split <;> rfl
@[simp] theorem State.raise_foc (s : State) (k : ReportKind) (fs : List Byte) : (s.raise k fs).foc = s.foc := by unfold State.raise; split <;> rfl
@[simp] theorem State.raise_sbm (s : State) (k : ReportKind) (fs : List Byte) : (s.raise k fs).sbm = s.sbm := by unfold State.raise; split <;> rfl
@[simp] theorem State.raise_dev (s : State) (k : ReportKind) (fs : List Byte) : (s.raise k fs).dev = s.dev := by unfold State.raise; split <;> rfl
@[simp] theorem State.raise_crd (s : State) (k : ReportKind) (fs : List Byte) : (s.raise k fs).crd = s.crd := by unfold State.raise; split <;> rfl
@[simp] theorem State.raise_tet (s : State) (k : ReportKind) (fs : List Byte) : (s.raise k fs).tet = s.tet := by unfold State.raise; split <;> rfl
@[simp] theorem State.raise_settings (s : State) (k : ReportKind) (fs : List Byte) : (s.raise k fs).settings = s.settings := by unfold State.raise; split <;> rfl

/-! ### Blocks that `pushReply` leaves alone -/

@[simp] theorem State.pushReply_pending (s : State) (k tag : Nat) (st : Status) (rest : List Byte) : (s.pushReply k tag st rest).pending = s.pending := rfl
@[simp] theorem State.pushReply_notices (s : State) (k tag : Nat) (st : Status) (rest : List Byte) : (s.pushReply k tag st rest).notices = s.notices := rfl
@[simp] theorem State.pushReply_pins (s : State) (k tag : Nat) (st : Status) (rest : List Byte) : (s.pushReply k tag st rest).pins = s.pins := rfl
@[simp] theorem State.pushReply_sup (s : State) (k tag : Nat) (st : Status) (rest : List Byte) : (s.pushReply k tag st rest).sup = s.sup := rfl
@[simp] theorem State.pushReply_cap (s : State) (k tag : Nat) (st : Status) (rest : List Byte) : (s.pushReply k tag st rest).cap = s.cap := rfl
@[simp] theorem State.pushReply_foc (s : State) (k tag : Nat) (st : Status) (rest : List Byte) : (s.pushReply k tag st rest).foc = s.foc := rfl
@[simp] theorem State.pushReply_sbm (s : State) (k tag : Nat) (st : Status) (rest : List Byte) : (s.pushReply k tag st rest).sbm = s.sbm := rfl
@[simp] theorem State.pushReply_dev (s : State) (k tag : Nat) (st : Status) (rest : List Byte) : (s.pushReply k tag st rest).dev = s.dev := rfl
@[simp] theorem State.pushReply_crd (s : State) (k tag : Nat) (st : Status) (rest : List Byte) : (s.pushReply k tag st rest).crd = s.crd := rfl
@[simp] theorem State.pushReply_tet (s : State) (k tag : Nat) (st : Status) (rest : List Byte) : (s.pushReply k tag st rest).tet = s.tet := rfl
@[simp] theorem State.pushReply_settings (s : State) (k tag : Nat) (st : Status) (rest : List Byte) : (s.pushReply k tag st rest).settings = s.settings := rfl

/-! ### Blocks that `announceSpace` leaves alone -/

@[simp] theorem State.announceSpace_pending (s : State) : s.announceSpace.pending = s.pending := by simp [State.announceSpace]
@[simp] theorem State.announceSpace_pins (s : State) : s.announceSpace.pins = s.pins := by simp [State.announceSpace]
@[simp] theorem State.announceSpace_link (s : State) : s.announceSpace.link = s.link := by simp [State.announceSpace]
@[simp] theorem State.announceSpace_sup (s : State) : s.announceSpace.sup = s.sup := by simp [State.announceSpace]
@[simp] theorem State.announceSpace_cap (s : State) : s.announceSpace.cap = s.cap := by simp [State.announceSpace]
@[simp] theorem State.announceSpace_foc (s : State) : s.announceSpace.foc = s.foc := by simp [State.announceSpace]
@[simp] theorem State.announceSpace_sbm (s : State) : s.announceSpace.sbm = s.sbm := by simp [State.announceSpace]
@[simp] theorem State.announceSpace_dev (s : State) : s.announceSpace.dev = s.dev := by simp [State.announceSpace]
@[simp] theorem State.announceSpace_crd (s : State) : s.announceSpace.crd = s.crd := by simp [State.announceSpace]
@[simp] theorem State.announceSpace_tet (s : State) : s.announceSpace.tet = s.tet := by simp [State.announceSpace]
@[simp] theorem State.announceSpace_settings (s : State) : s.announceSpace.settings = s.settings := by simp [State.announceSpace]

/-! ### Blocks that `announceRetirement` leaves alone -/

@[simp] theorem State.announceRetirement_pending (s : State) : s.announceRetirement.pending = s.pending := by simp [State.announceRetirement]
@[simp] theorem State.announceRetirement_pins (s : State) : s.announceRetirement.pins = s.pins := by simp [State.announceRetirement]
@[simp] theorem State.announceRetirement_link (s : State) : s.announceRetirement.link = s.link := by simp [State.announceRetirement]
@[simp] theorem State.announceRetirement_sup (s : State) : s.announceRetirement.sup = s.sup := by simp [State.announceRetirement]
@[simp] theorem State.announceRetirement_cap (s : State) : s.announceRetirement.cap = s.cap := by simp [State.announceRetirement]
@[simp] theorem State.announceRetirement_foc (s : State) : s.announceRetirement.foc = s.foc := by simp [State.announceRetirement]
@[simp] theorem State.announceRetirement_sbm (s : State) : s.announceRetirement.sbm = s.sbm := by simp [State.announceRetirement]
@[simp] theorem State.announceRetirement_dev (s : State) : s.announceRetirement.dev = s.dev := by simp [State.announceRetirement]
@[simp] theorem State.announceRetirement_crd (s : State) : s.announceRetirement.crd = s.crd := by simp [State.announceRetirement]
@[simp] theorem State.announceRetirement_tet (s : State) : s.announceRetirement.tet = s.tet := by simp [State.announceRetirement]
@[simp] theorem State.announceRetirement_settings (s : State) : s.announceRetirement.settings = s.settings := by simp [State.announceRetirement]

/-! ### Blocks that `mapShot` leaves alone -/

@[simp] theorem State.mapShot_pending (s : State) (i : Nat) (f : Shot → Shot) : (s.mapShot i f).pending = s.pending := by unfold State.mapShot; split <;> rfl
@[simp] theorem State.mapShot_notices (s : State) (i : Nat) (f : Shot → Shot) : (s.mapShot i f).notices = s.notices := by unfold State.mapShot; split <;> rfl
@[simp] theorem State.mapShot_pins (s : State) (i : Nat) (f : Shot → Shot) : (s.mapShot i f).pins = s.pins := by unfold State.mapShot; split <;> rfl
@[simp] theorem State.mapShot_link (s : State) (i : Nat) (f : Shot → Shot) : (s.mapShot i f).link = s.link := by unfold State.mapShot; split <;> rfl
@[simp] theorem State.mapShot_sup (s : State) (i : Nat) (f : Shot → Shot) : (s.mapShot i f).sup = s.sup := by unfold State.mapShot; split <;> rfl
@[simp] theorem State.mapShot_cap (s : State) (i : Nat) (f : Shot → Shot) : (s.mapShot i f).cap = s.cap := by unfold State.mapShot; split <;> rfl
@[simp] theorem State.mapShot_foc (s : State) (i : Nat) (f : Shot → Shot) : (s.mapShot i f).foc = s.foc := by unfold State.mapShot; split <;> rfl
@[simp] theorem State.mapShot_dev (s : State) (i : Nat) (f : Shot → Shot) : (s.mapShot i f).dev = s.dev := by unfold State.mapShot; split <;> rfl
@[simp] theorem State.mapShot_crd (s : State) (i : Nat) (f : Shot → Shot) : (s.mapShot i f).crd = s.crd := by unfold State.mapShot; split <;> rfl
@[simp] theorem State.mapShot_tet (s : State) (i : Nat) (f : Shot → Shot) : (s.mapShot i f).tet = s.tet := by unfold State.mapShot; split <;> rfl
@[simp] theorem State.mapShot_settings (s : State) (i : Nat) (f : Shot → Shot) : (s.mapShot i f).settings = s.settings := by unfold State.mapShot; split <;> rfl

/-! ### Blocks that `mapObj` leaves alone -/

@[simp] theorem State.mapObj_pending (s : State) (i : Nat) (k : Pict) (f : Obj → Obj) : (s.mapObj i k f).pending = s.pending := by simp [State.mapObj]
@[simp] theorem State.mapObj_notices (s : State) (i : Nat) (k : Pict) (f : Obj → Obj) : (s.mapObj i k f).notices = s.notices := by simp [State.mapObj]
@[simp] theorem State.mapObj_pins (s : State) (i : Nat) (k : Pict) (f : Obj → Obj) : (s.mapObj i k f).pins = s.pins := by simp [State.mapObj]
@[simp] theorem State.mapObj_link (s : State) (i : Nat) (k : Pict) (f : Obj → Obj) : (s.mapObj i k f).link = s.link := by simp [State.mapObj]
@[simp] theorem State.mapObj_sup (s : State) (i : Nat) (k : Pict) (f : Obj → Obj) : (s.mapObj i k f).sup = s.sup := by simp [State.mapObj]
@[simp] theorem State.mapObj_cap (s : State) (i : Nat) (k : Pict) (f : Obj → Obj) : (s.mapObj i k f).cap = s.cap := by simp [State.mapObj]
@[simp] theorem State.mapObj_foc (s : State) (i : Nat) (k : Pict) (f : Obj → Obj) : (s.mapObj i k f).foc = s.foc := by simp [State.mapObj]
@[simp] theorem State.mapObj_dev (s : State) (i : Nat) (k : Pict) (f : Obj → Obj) : (s.mapObj i k f).dev = s.dev := by simp [State.mapObj]
@[simp] theorem State.mapObj_crd (s : State) (i : Nat) (k : Pict) (f : Obj → Obj) : (s.mapObj i k f).crd = s.crd := by simp [State.mapObj]
@[simp] theorem State.mapObj_tet (s : State) (i : Nat) (k : Pict) (f : Obj → Obj) : (s.mapObj i k f).tet = s.tet := by simp [State.mapObj]
@[simp] theorem State.mapObj_settings (s : State) (i : Nat) (k : Pict) (f : Obj → Obj) : (s.mapObj i k f).settings = s.settings := by simp [State.mapObj]

/-! ### Blocks that `place` leaves alone -/

@[simp] theorem State.place_pending (s : State) (i : Nat) (k : Pict) (h : Hold) : (s.place i k h).pending = s.pending := by simp [State.place]
@[simp] theorem State.place_notices (s : State) (i : Nat) (k : Pict) (h : Hold) : (s.place i k h).notices = s.notices := by simp [State.place]
@[simp] theorem State.place_pins (s : State) (i : Nat) (k : Pict) (h : Hold) : (s.place i k h).pins = s.pins := by simp [State.place]
@[simp] theorem State.place_link (s : State) (i : Nat) (k : Pict) (h : Hold) : (s.place i k h).link = s.link := by simp [State.place]
@[simp] theorem State.place_sup (s : State) (i : Nat) (k : Pict) (h : Hold) : (s.place i k h).sup = s.sup := by simp [State.place]
@[simp] theorem State.place_cap (s : State) (i : Nat) (k : Pict) (h : Hold) : (s.place i k h).cap = s.cap := by simp [State.place]
@[simp] theorem State.place_foc (s : State) (i : Nat) (k : Pict) (h : Hold) : (s.place i k h).foc = s.foc := by simp [State.place]
@[simp] theorem State.place_dev (s : State) (i : Nat) (k : Pict) (h : Hold) : (s.place i k h).dev = s.dev := by simp [State.place]
@[simp] theorem State.place_crd (s : State) (i : Nat) (k : Pict) (h : Hold) : (s.place i k h).crd = s.crd := by simp [State.place]
@[simp] theorem State.place_tet (s : State) (i : Nat) (k : Pict) (h : Hold) : (s.place i k h).tet = s.tet := by simp [State.place]
@[simp] theorem State.place_settings (s : State) (i : Nat) (k : Pict) (h : Hold) : (s.place i k h).settings = s.settings := by simp [State.place]

/-! ### Blocks that `setCardStatus` leaves alone -/

@[simp] theorem State.setCardStatus_pending (s : State) (i : Nat) (k : Pict) (sl : Slot) (v : CardStatus) : (s.setCardStatus i k sl v).pending = s.pending := by simp [State.setCardStatus]
@[simp] theorem State.setCardStatus_notices (s : State) (i : Nat) (k : Pict) (sl : Slot) (v : CardStatus) : (s.setCardStatus i k sl v).notices = s.notices := by simp [State.setCardStatus]
@[simp] theorem State.setCardStatus_pins (s : State) (i : Nat) (k : Pict) (sl : Slot) (v : CardStatus) : (s.setCardStatus i k sl v).pins = s.pins := by simp [State.setCardStatus]
@[simp] theorem State.setCardStatus_link (s : State) (i : Nat) (k : Pict) (sl : Slot) (v : CardStatus) : (s.setCardStatus i k sl v).link = s.link := by simp [State.setCardStatus]
@[simp] theorem State.setCardStatus_sup (s : State) (i : Nat) (k : Pict) (sl : Slot) (v : CardStatus) : (s.setCardStatus i k sl v).sup = s.sup := by simp [State.setCardStatus]
@[simp] theorem State.setCardStatus_cap (s : State) (i : Nat) (k : Pict) (sl : Slot) (v : CardStatus) : (s.setCardStatus i k sl v).cap = s.cap := by simp [State.setCardStatus]
@[simp] theorem State.setCardStatus_foc (s : State) (i : Nat) (k : Pict) (sl : Slot) (v : CardStatus) : (s.setCardStatus i k sl v).foc = s.foc := by simp [State.setCardStatus]
@[simp] theorem State.setCardStatus_dev (s : State) (i : Nat) (k : Pict) (sl : Slot) (v : CardStatus) : (s.setCardStatus i k sl v).dev = s.dev := by simp [State.setCardStatus]
@[simp] theorem State.setCardStatus_crd (s : State) (i : Nat) (k : Pict) (sl : Slot) (v : CardStatus) : (s.setCardStatus i k sl v).crd = s.crd := by simp [State.setCardStatus]
@[simp] theorem State.setCardStatus_tet (s : State) (i : Nat) (k : Pict) (sl : Slot) (v : CardStatus) : (s.setCardStatus i k sl v).tet = s.tet := by simp [State.setCardStatus]
@[simp] theorem State.setCardStatus_settings (s : State) (i : Nat) (k : Pict) (sl : Slot) (v : CardStatus) : (s.setCardStatus i k sl v).settings = s.settings := by simp [State.setCardStatus]

/-! ### Blocks that `setSlot` leaves alone -/

@[simp] theorem State.setSlot_pending (s : State) (sl : Slot) (c : CardSlot) : (s.setSlot sl c).pending = s.pending := rfl
@[simp] theorem State.setSlot_notices (s : State) (sl : Slot) (c : CardSlot) : (s.setSlot sl c).notices = s.notices := rfl
@[simp] theorem State.setSlot_pins (s : State) (sl : Slot) (c : CardSlot) : (s.setSlot sl c).pins = s.pins := rfl
@[simp] theorem State.setSlot_link (s : State) (sl : Slot) (c : CardSlot) : (s.setSlot sl c).link = s.link := rfl
@[simp] theorem State.setSlot_sup (s : State) (sl : Slot) (c : CardSlot) : (s.setSlot sl c).sup = s.sup := rfl
@[simp] theorem State.setSlot_cap (s : State) (sl : Slot) (c : CardSlot) : (s.setSlot sl c).cap = s.cap := rfl
@[simp] theorem State.setSlot_foc (s : State) (sl : Slot) (c : CardSlot) : (s.setSlot sl c).foc = s.foc := rfl
@[simp] theorem State.setSlot_sbm (s : State) (sl : Slot) (c : CardSlot) : (s.setSlot sl c).sbm = s.sbm := rfl
@[simp] theorem State.setSlot_dev (s : State) (sl : Slot) (c : CardSlot) : (s.setSlot sl c).dev = s.dev := rfl
@[simp] theorem State.setSlot_tet (s : State) (sl : Slot) (c : CardSlot) : (s.setSlot sl c).tet = s.tet := rfl
@[simp] theorem State.setSlot_settings (s : State) (sl : Slot) (c : CardSlot) : (s.setSlot sl c).settings = s.settings := rfl

/-! ### Blocks that `removeObj` leaves alone -/

@[simp] theorem State.removeObj_pending (s : State) (i : Nat) (k : Pict) : (s.removeObj i k).pending = s.pending := by unfold State.removeObj; split <;> simp
@[simp] theorem State.removeObj_pins (s : State) (i : Nat) (k : Pict) : (s.removeObj i k).pins = s.pins := by unfold State.removeObj; split <;> simp
@[simp] theorem State.removeObj_link (s : State) (i : Nat) (k : Pict) : (s.removeObj i k).link = s.link := by unfold State.removeObj; split <;> simp
@[simp] theorem State.removeObj_sup (s : State) (i : Nat) (k : Pict) : (s.removeObj i k).sup = s.sup := by unfold State.removeObj; split <;> simp
@[simp] theorem State.removeObj_cap (s : State) (i : Nat) (k : Pict) : (s.removeObj i k).cap = s.cap := by unfold State.removeObj; split <;> simp
@[simp] theorem State.removeObj_foc (s : State) (i : Nat) (k : Pict) : (s.removeObj i k).foc = s.foc := by unfold State.removeObj; split <;> simp
@[simp] theorem State.removeObj_dev (s : State) (i : Nat) (k : Pict) : (s.removeObj i k).dev = s.dev := by unfold State.removeObj; split <;> simp
@[simp] theorem State.removeObj_crd (s : State) (i : Nat) (k : Pict) : (s.removeObj i k).crd = s.crd := by unfold State.removeObj; split <;> simp
@[simp] theorem State.removeObj_tet (s : State) (i : Nat) (k : Pict) : (s.removeObj i k).tet = s.tet := by unfold State.removeObj; split <;> simp
@[simp] theorem State.removeObj_settings (s : State) (i : Nat) (k : Pict) : (s.removeObj i k).settings = s.settings := by unfold State.removeObj; split <;> simp

/-! ### Blocks that `checkRetire` leaves alone -/

@[simp] theorem State.checkRetire_pending (s : State) (i : Nat) : (s.checkRetire i).pending = s.pending := by
  unfold State.checkRetire; (repeat' split) <;> simp
@[simp] theorem State.checkRetire_pins (s : State) (i : Nat) : (s.checkRetire i).pins = s.pins := by
  unfold State.checkRetire; (repeat' split) <;> simp
@[simp] theorem State.checkRetire_sup (s : State) (i : Nat) : (s.checkRetire i).sup = s.sup := by
  unfold State.checkRetire; (repeat' split) <;> simp
@[simp] theorem State.checkRetire_cap (s : State) (i : Nat) : (s.checkRetire i).cap = s.cap := by
  unfold State.checkRetire; (repeat' split) <;> simp
@[simp] theorem State.checkRetire_foc (s : State) (i : Nat) : (s.checkRetire i).foc = s.foc := by
  unfold State.checkRetire; (repeat' split) <;> simp
@[simp] theorem State.checkRetire_dev (s : State) (i : Nat) : (s.checkRetire i).dev = s.dev := by
  unfold State.checkRetire; (repeat' split) <;> simp
@[simp] theorem State.checkRetire_crd (s : State) (i : Nat) : (s.checkRetire i).crd = s.crd := by
  unfold State.checkRetire; (repeat' split) <;> simp
@[simp] theorem State.checkRetire_tet (s : State) (i : Nat) : (s.checkRetire i).tet = s.tet := by
  unfold State.checkRetire; (repeat' split) <;> simp
@[simp] theorem State.checkRetire_settings (s : State) (i : Nat) : (s.checkRetire i).settings = s.settings := by
  unfold State.checkRetire; (repeat' split) <;> simp

/-! ### Blocks that `checkRetireShot` leaves alone -/

@[simp] theorem State.checkRetireShot_pending (s : State) (n : Nat) : (s.checkRetireShot n).pending = s.pending := by unfold State.checkRetireShot; split <;> simp
@[simp] theorem State.checkRetireShot_pins (s : State) (n : Nat) : (s.checkRetireShot n).pins = s.pins := by unfold State.checkRetireShot; split <;> simp
@[simp] theorem State.checkRetireShot_sup (s : State) (n : Nat) : (s.checkRetireShot n).sup = s.sup := by unfold State.checkRetireShot; split <;> simp
@[simp] theorem State.checkRetireShot_cap (s : State) (n : Nat) : (s.checkRetireShot n).cap = s.cap := by unfold State.checkRetireShot; split <;> simp
@[simp] theorem State.checkRetireShot_foc (s : State) (n : Nat) : (s.checkRetireShot n).foc = s.foc := by unfold State.checkRetireShot; split <;> simp
@[simp] theorem State.checkRetireShot_dev (s : State) (n : Nat) : (s.checkRetireShot n).dev = s.dev := by unfold State.checkRetireShot; split <;> simp
@[simp] theorem State.checkRetireShot_crd (s : State) (n : Nat) : (s.checkRetireShot n).crd = s.crd := by unfold State.checkRetireShot; split <;> simp
@[simp] theorem State.checkRetireShot_tet (s : State) (n : Nat) : (s.checkRetireShot n).tet = s.tet := by unfold State.checkRetireShot; split <;> simp
@[simp] theorem State.checkRetireShot_settings (s : State) (n : Nat) : (s.checkRetireShot n).settings = s.settings := by unfold State.checkRetireShot; split <;> simp

/-! ### Blocks that `setHolds` leaves alone -/

@[simp] theorem State.setHolds_pending (s : State) (i : Nat) (k : Pict) (f : HoldSet → HoldSet) : (s.setHolds i k f).pending = s.pending := by unfold State.setHolds; (repeat' split) <;> simp
@[simp] theorem State.setHolds_pins (s : State) (i : Nat) (k : Pict) (f : HoldSet → HoldSet) : (s.setHolds i k f).pins = s.pins := by unfold State.setHolds; (repeat' split) <;> simp
@[simp] theorem State.setHolds_sup (s : State) (i : Nat) (k : Pict) (f : HoldSet → HoldSet) : (s.setHolds i k f).sup = s.sup := by unfold State.setHolds; (repeat' split) <;> simp
@[simp] theorem State.setHolds_cap (s : State) (i : Nat) (k : Pict) (f : HoldSet → HoldSet) : (s.setHolds i k f).cap = s.cap := by unfold State.setHolds; (repeat' split) <;> simp
@[simp] theorem State.setHolds_foc (s : State) (i : Nat) (k : Pict) (f : HoldSet → HoldSet) : (s.setHolds i k f).foc = s.foc := by unfold State.setHolds; (repeat' split) <;> simp
@[simp] theorem State.setHolds_dev (s : State) (i : Nat) (k : Pict) (f : HoldSet → HoldSet) : (s.setHolds i k f).dev = s.dev := by unfold State.setHolds; (repeat' split) <;> simp
@[simp] theorem State.setHolds_crd (s : State) (i : Nat) (k : Pict) (f : HoldSet → HoldSet) : (s.setHolds i k f).crd = s.crd := by unfold State.setHolds; (repeat' split) <;> simp
@[simp] theorem State.setHolds_tet (s : State) (i : Nat) (k : Pict) (f : HoldSet → HoldSet) : (s.setHolds i k f).tet = s.tet := by unfold State.setHolds; (repeat' split) <;> simp
@[simp] theorem State.setHolds_settings (s : State) (i : Nat) (k : Pict) (f : HoldSet → HoldSet) : (s.setHolds i k f).settings = s.settings := by unfold State.setHolds; (repeat' split) <;> simp

/-! ### Blocks that `releaseHold` leaves alone -/

@[simp] theorem State.releaseHold_pending (s : State) (i : Nat) (k : Pict) (h : Hold) : (s.releaseHold i k h).pending = s.pending := by simp [State.releaseHold]
@[simp] theorem State.releaseHold_pins (s : State) (i : Nat) (k : Pict) (h : Hold) : (s.releaseHold i k h).pins = s.pins := by simp [State.releaseHold]
@[simp] theorem State.releaseHold_sup (s : State) (i : Nat) (k : Pict) (h : Hold) : (s.releaseHold i k h).sup = s.sup := by simp [State.releaseHold]
@[simp] theorem State.releaseHold_cap (s : State) (i : Nat) (k : Pict) (h : Hold) : (s.releaseHold i k h).cap = s.cap := by simp [State.releaseHold]
@[simp] theorem State.releaseHold_foc (s : State) (i : Nat) (k : Pict) (h : Hold) : (s.releaseHold i k h).foc = s.foc := by simp [State.releaseHold]
@[simp] theorem State.releaseHold_dev (s : State) (i : Nat) (k : Pict) (h : Hold) : (s.releaseHold i k h).dev = s.dev := by simp [State.releaseHold]
@[simp] theorem State.releaseHold_crd (s : State) (i : Nat) (k : Pict) (h : Hold) : (s.releaseHold i k h).crd = s.crd := by simp [State.releaseHold]
@[simp] theorem State.releaseHold_tet (s : State) (i : Nat) (k : Pict) (h : Hold) : (s.releaseHold i k h).tet = s.tet := by simp [State.releaseHold]
@[simp] theorem State.releaseHold_settings (s : State) (i : Nat) (k : Pict) (h : Hold) : (s.releaseHold i k h).settings = s.settings := by simp [State.releaseHold]

/-! ### The clocks -/

/-- The clock is carried to a moment and never back. -/
@[simp] theorem State.carryTo_elapsed (s : State) (d : Nat) : (s.carryTo d).sup.elapsed = max s.sup.elapsed d := by
  unfold State.carryTo State.elapse; split
  · simp only [State.setSup_sup]; omega
  · omega

/-- Time only passes forward. -/
theorem State.elapse_elapsed (s : State) (d : Nat) : (s.elapse d).sup.elapsed = s.sup.elapsed + d := rfl

/-! ### Reports and replies -/

/-- What a report that reaches the link leaves alone of it. -/
@[simp] theorem Link.take_host (l : Link) (line : Line) (k : ReportKind) (t : Nat) (fs : List Byte) :
    (l.take line k t fs).replies = l.replies ∧ (l.take line k t fs).assembler = l.assembler
      ∧ (l.take line k t fs).shifting = l.shifting ∧ (l.take line k t fs).errors = l.errors
      ∧ (l.take line k t fs).lastError = l.lastError ∧ (l.take line k t fs).discarded = l.discarded
      ∧ (l.take line k t fs).resetDue = l.resetDue := by
  unfold Link.take; split <;> simp

/-- A report moves the sequence number on by one, queued or dropped. -/
theorem Link.take_nextSeq (l : Link) (line : Line) (k : ReportKind) (t : Nat) (fs : List Byte) :
    (l.take line k t fs).nextSeq = (l.nextSeq + 1) % 65536 := by
  unfold Link.take; split <;> rfl

/-- The link after a report: its host side is as it was. -/
theorem State.raise_link (s : State) (k : ReportKind) (fs : List Byte) :
    (s.raise k fs).link = match Route.line (s.settings.route k) with
      | none => s.link
      | some line => s.link.take line k s.sup.timeBase fs := by
  unfold State.raise; split <;> simp [*]

/-- The reply shifted out is the oldest queued (R222). -/
theorem State.shiftedReply_mem {s : State} {r : Reply} (h : s.shiftedReply = some r) : r ∈ s.link.replies := by
  unfold State.shiftedReply at h; split at h
  · exact List.mem_of_head? h
  · cases h

/-- A reply joins at the newest end. -/
@[simp] theorem State.pushReply_replies (s : State) (k tag : Nat) (st : Status) (rest : List Byte) :
    (s.pushReply k tag st rest).link.replies = s.link.replies ++ [{ kind := k, tag := tag, body := st.byte :: rest }] := rfl

/-! ### Hold sets -/

/-- A hold after one is set: that one as given, every other as it was. -/
theorem HoldSet.has_set (h : HoldSet) (k k' : Hold) (v : Bool) :
    (h.set k v).has k' = if k' = k then v else h.has k' := by
  cases k <;> cases k' <;> simp [HoldSet.set, HoldSet.has]

/-! ### The shot table -/

/-- An entry after one is replaced. -/
theorem Sbm.shot_put (b : Sbm) (i j : Nat) (v : Option Shot) :
    (b.put i v).shot j = if i = j ∧ j < b.shots.length then v else b.shot j := by
  unfold Sbm.put Sbm.shot
  simp only [List.getElem?_set]
  split <;> rename_i h
  · subst h
    split <;> rename_i h2
    · simp [h2]
    · simp [h2]
  · simp [h]

/-- The shot table keeps its length. -/
@[simp] theorem Sbm.put_length (b : Sbm) (i : Nat) (v : Option Shot) : (b.put i v).shots.length = b.shots.length := by
  simp [Sbm.put]

/-- A shot record that is there lies inside the table. -/
theorem Sbm.shot_lt {b : Sbm} {i : Nat} {sh : Shot} (h : b.shot i = some sh) : i < b.shots.length := by
  rcases Nat.lt_or_ge i b.shots.length with hlt | hge
  · exact hlt
  · simp [Sbm.shot, List.getElem?_eq_none hge] at h

/-- A shot record after a change in place. -/
theorem State.shot_mapShot (s : State) (i j : Nat) (f : Shot → Shot) :
    (s.mapShot i f).shot j = if i = j then (s.shot j).map f else s.shot j := by
  unfold State.mapShot
  split <;> rename_i h
  · split
    · rename_i e; subst e; simp [h]
    · rfl
  · have hlt := Sbm.shot_lt (b := s.sbm) (i := i) h
    simp only [State.shot, State.setSbm_sbm, Sbm.shot_put]
    by_cases e : i = j
    · subst e
      have h' : s.sbm.shot i = some _ := h
      simp [hlt, h']
    · simp [e]

/-- An object after its own change in place. -/
theorem State.obj_mapObj (s : State) (i : Nat) (k : Pict) (f : Obj → Obj) :
    (s.mapObj i k f).obj i k = (s.obj i k).map f := by
  unfold State.mapObj State.obj
  rw [State.shot_mapShot]
  cases s.shot i with
  | none => simp
  | some sh => cases k <;> simp [Shot.obj, Shot.setObj]

/-! ### Extents -/

/-- Sorting a list of extents loses and repeats none. -/
theorem insertAscending_perm (n : Nat) (l : List Nat) : (insertAscending n l).Perm (n :: l) := by
  induction l with
  | nil => simp [insertAscending]
  | cons m ms ih =>
    unfold insertAscending
    split
    · exact .refl _
    · exact (ih.cons m).trans (.swap ..)

/-- The extents of a removed object in ascending order are its extents (R3). -/
theorem ascending_perm (l : List Nat) : (ascending l).Perm l := by
  induction l with
  | nil => exact .refl _
  | cons n l ih => exact (insertAscending_perm n _).trans (ih.cons n)

end Sys2Proof.Machine
end

