-- ==== Sys2Proof/Laws/Inner.lean ====
section
/-! SUPPORT. What everything a block does within a step leaves alone and keeps true: `Inner r s` says that `s` is what
blocks may make of `r`. The shared operations are shown to be such here; the blocks' own functions in the files after. -/

namespace Sys2Proof.Machine
open Sys2Proof

/-- What no block changes within a step but by its own commands: the queue of commands, the pins, the settings, the
elapsed time, the settings store, the brown-out hold and the host's side of the link. -/
structure Fixed where
  pending : List Instr
  pins : Pins
  settings : Settings
  elapsed : Nat
  store : Store
  brownout : Option Bool
  replies : List Reply
  assembler : Assembler
  shifting : Bool
  errors : Nat
  lastError : Option LinkError
  discarded : Nat
  resetDue : Option Nat

/-- The fixed part of a state. -/
def State.fixed (s : State) : Fixed :=
  { pending := s.pending, pins := s.pins, settings := s.settings, elapsed := s.sup.elapsed, store := s.sup.store,
    brownout := s.sup.brownout, replies := s.link.replies, assembler := s.link.assembler, shifting := s.link.shifting,
    errors := s.link.errors, lastError := s.link.lastError, discarded := s.link.discarded, resetDue := s.link.resetDue }

/-- The invariants of the buffer and of the link together. -/
structure State.Sound (s : State) : Prop where
  partitioned : s.Partitioned
  bounded : s.link.Bounded

/-- `s` has the fixed part of `r`, and is sound if `r` is. -/
structure State.Inner (r s : State) : Prop where
  fixed : s.fixed = r.fixed
  sound : r.Sound → s.Sound

theorem State.Inner.refl (s : State) : s.Inner s := ⟨rfl, id⟩

/-- One more function on a chain. -/
theorem State.Inner.next {r s t : State} (h : r.Inner s) (hf : t.fixed = s.fixed) (hs : r.Sound → s.Sound → t.Sound) :
    r.Inner t := ⟨hf.trans h.fixed, fun x => hs x (h.sound x)⟩

theorem State.Inner.trans {r s t : State} (h : r.Inner s) (h' : s.Inner t) : r.Inner t :=
  h.next h'.fixed fun _ x => h'.sound x

/-- A fold of such functions. -/
theorem State.Inner.foldl {α : Type} {r s : State} (l : List α) (f : State → α → State)
    (h : r.Inner s) (hf : ∀ t x, r.Inner t → r.Inner (f t x)) : r.Inner (l.foldl f s) := by
  induction l generalizing s with
  | nil => exact h
  | cons x l ih => exact ih (hf s x h)

/-! ### Blocks replaced -/

theorem Sound.congr {s t : State} (h : s.Sound) (hb : t.sbm.places = s.sbm.places) (he : t.sbm.shots = s.sbm.shots)
    (hc : t.crd.a.recalls = s.crd.a.recalls ∧ t.crd.b.recalls = s.crd.b.recalls) (hl : t.link.Bounded) : t.Sound := by
  refine ⟨⟨hb ▸ h.partitioned.places, he ▸ h.partitioned.ring, ?_, ?_⟩, hl⟩
  · have := h.partitioned.recallsA; unfold CardSlot.recallsOk at *; rwa [hc.1]
  · have := h.partitioned.recallsB; unfold CardSlot.recallsOk at *; rwa [hc.2]

theorem State.Inner.setNotices {r s : State} (h : r.Inner s) (n : List Notice) : r.Inner (s.setNotices n) :=
  h.next rfl fun _ x => Sound.congr x rfl rfl ⟨rfl, rfl⟩ x.bounded

theorem State.Inner.setCap {r s : State} (h : r.Inner s) (c : Cap) : r.Inner (s.setCap c) :=
  h.next rfl fun _ x => Sound.congr x rfl rfl ⟨rfl, rfl⟩ x.bounded

theorem State.Inner.setFoc {r s : State} (h : r.Inner s) (f : Foc) : r.Inner (s.setFoc f) :=
  h.next rfl fun _ x => Sound.congr x rfl rfl ⟨rfl, rfl⟩ x.bounded

theorem State.Inner.setDev {r s : State} (h : r.Inner s) (d : Dev) : r.Inner (s.setDev d) :=
  h.next rfl fun _ x => Sound.congr x rfl rfl ⟨rfl, rfl⟩ x.bounded

theorem State.Inner.setTet {r s : State} (h : r.Inner s) (t : Tet) : r.Inner (s.setTet t) :=
  h.next rfl fun _ x => Sound.congr x rfl rfl ⟨rfl, rfl⟩ x.bounded

theorem State.Inner.setSup {r s : State} (h : r.Inner s) (u : Sup)
    (hu : u.elapsed = s.sup.elapsed ∧ u.store = s.sup.store ∧ u.brownout = s.sup.brownout) : r.Inner (s.setSup u) :=
  h.next (by simp [State.fixed, hu]) fun _ x => Sound.congr x rfl rfl ⟨rfl, rfl⟩ x.bounded

/-- The Shot Buffer Manager changed elsewhere than in its extents and entries. -/
theorem State.Inner.setSbm {r s : State} (h : r.Inner s) (b : Sbm) (hf : b.freeList = s.sbm.freeList)
    (hs : b.shots = s.sbm.shots) : r.Inner (s.setSbm b) :=
  h.next rfl fun _ x => Sound.congr x (by simp [Sbm.places, hf, hs]) hs ⟨rfl, rfl⟩ x.bounded

theorem Crd.put_a (c : Crd) (sl : Slot) (v : CardSlot) : (c.put sl v).a = if sl = .a then v else c.a := by
  cases sl <;> rfl

theorem Crd.put_b (c : Crd) (sl : Slot) (v : CardSlot) : (c.put sl v).b = if sl = .b then v else c.b := by
  cases sl <;> rfl

/-- A slot replaced, its recalls still of raws and renditions. -/
theorem State.Inner.setSlot {r s : State} (h : r.Inner s) (sl : Slot) (c : CardSlot)
    (hc : (s.slot sl).recallsOk → c.recallsOk) : r.Inner (s.setSlot sl c) := by
  refine h.next rfl fun _ x => ⟨⟨x.partitioned.places, x.partitioned.ring, ?_, ?_⟩, x.bounded⟩
  · cases sl
    · exact hc x.partitioned.recallsA
    · exact x.partitioned.recallsA
  · cases sl
    · exact x.partitioned.recallsB
    · exact hc x.partitioned.recallsB

/-- The card controller replaced, the recalls of both slots as they were. -/
theorem State.Inner.setCrd {r s : State} (h : r.Inner s) (c : Crd)
    (hc : c.a.recalls = s.crd.a.recalls ∧ c.b.recalls = s.crd.b.recalls) : r.Inner (s.setCrd c) :=
  h.next rfl fun _ x => Sound.congr x rfl rfl hc x.bounded

/-! ### Notices and reports -/

theorem State.Inner.notify {r s : State} (h : r.Inner s) (n : Notice) : r.Inner (s.notify n) := by
  unfold State.notify; split
  · exact h
  · exact h.setNotices _

theorem State.Inner.announceSpace {r s : State} (h : r.Inner s) : r.Inner s.announceSpace :=
  (((h.notify _).notify _).notify _).notify _

theorem State.Inner.announceRetirement {r s : State} (h : r.Inner s) : r.Inner s.announceRetirement :=
  ((h.notify _).notify _).notify _

/-- A report keeps the link within its sizes (R225). -/
theorem Link.take_bounded {l : Link} (h : l.Bounded) (line : Line) (k : ReportKind) (t : Nat) (fs : List Byte) :
    (l.take line k t fs).Bounded := by
  have h1 := h.replies; have h2 := h.reports; have h3 := h.lost
  unfold Link.take Config.reportQueue
  split
  · refine ⟨h1, ?_, Nat.mod_lt _ (by decide), h3⟩
    simp; omega
  · exact ⟨h1, h2, Nat.mod_lt _ (by decide), Nat.min_le_left ..⟩

theorem State.Inner.raise {r s : State} (h : r.Inner s) (k : ReportKind) (fs : List Byte) : r.Inner (s.raise k fs) := by
  unfold State.raise; split
  · exact h
  · refine h.next (by simp [State.fixed]) fun _ x => Sound.congr x rfl rfl ⟨rfl, rfl⟩ (Link.take_bounded x.bounded ..)

/-! ### Slots changed elsewhere than in their recalls -/

@[simp] theorem CardSlot.takePending_recalls (c : CardSlot) : c.takePending.recalls = c.recalls := by
  unfold CardSlot.takePending; split <;> rfl

@[simp] theorem CardSlot.atWindowEnd_recalls (c : CardSlot) : c.atWindowEnd.recalls = c.recalls := by
  unfold CardSlot.atWindowEnd; split <;> simp

theorem CardSlot.recallsOk.of_eq {c d : CardSlot} (h : c.recallsOk) (e : d.recalls = c.recalls) : d.recallsOk := by
  unfold CardSlot.recallsOk at *; rwa [e]

theorem CardSlot.recallsOk.beginRead {c : CardSlot} (h : c.recallsOk) : c.beginRead.recallsOk := by
  unfold CardSlot.beginRead
  split
  · exact h
  · rename_i r rs e
    intro x hx
    have := h
    unfold CardSlot.recallsOk at this
    rw [e] at this
    rcases List.mem_cons.mp hx with rfl | hx
    · exact this r (List.mem_cons_self ..)
    · exact this x (List.mem_cons_of_mem _ hx)

theorem CardSlot.recallsOk.setHead {c : CardSlot} (h : c.recallsOk) {r : Recall} (hr : r.kind ≠ .thumb) :
    (c.setHead r).recallsOk := by
  intro x hx
  rcases List.mem_cons.mp hx with rfl | hx
  · exact hr
  · exact h x (List.mem_of_mem_drop hx)

/-- A filtered or renamed list of recalls is still of raws and renditions. -/
theorem CardSlot.recallsOk.filterMap {c d : CardSlot} (h : c.recallsOk) (p : Recall → Bool) (f : Recall → Recall)
    (hf : ∀ r, (f r).kind = r.kind) (e : d.recalls = (c.recalls.filter p).map f) : d.recallsOk := by
  intro x hx
  rw [e] at hx
  obtain ⟨y, hy, rfl⟩ := List.mem_map.mp hx
  rw [hf]
  exact h y (List.mem_filter.mp hy).1

/-! ### Shot records and objects -/

/-- The extents of a table after one entry is replaced by one that names the same. -/
theorem flatMap_set {α β : Type} (f : α → List β) (l : List α) (i : Nat) (a b : α) (h : l[i]? = some a) (hf : f b = f a) :
    (l.set i b).flatMap f = l.flatMap f := by
  induction l generalizing i with
  | nil => simp at h
  | cons x l ih =>
    cases i with
    | zero => simp at h; subst h; simp [hf]
    | succ i => simp at h; simp [ih i h]

/-- The extents of a table after one entry is replaced, apart from that entry's own. -/
theorem flatMap_set_perm {α β : Type} (f : α → List β) (l : List α) (i : Nat) (a b : α) (h : l[i]? = some a) :
    (f a ++ (l.set i b).flatMap f).Perm (f b ++ l.flatMap f) := by
  induction l generalizing i with
  | nil => simp at h
  | cons x l ih =>
    cases i with
    | zero =>
      simp at h; subst h
      simpa using (List.perm_append_comm_assoc (f x) (f b) (l.flatMap f))
    | succ i =>
      simp only [List.getElem?_cons_succ] at h
      simp only [List.set_cons_succ, List.flatMap_cons]
      exact ((List.perm_append_comm_assoc ..).trans ((ih i h).append_left (f x))).trans (List.perm_append_comm_assoc ..)

theorem Sbm.shot_get {b : Sbm} {i : Nat} {sh : Shot} (h : b.shot i = some sh) : b.shots[i]? = some (some sh) := by
  unfold Sbm.shot at h
  cases hx : b.shots[i]? with
  | none => simp [hx] at h
  | some e => simp [hx] at h; simp [h]

/-- A change of a shot record that moves no extent and makes no RING entry. -/
structure ShotMap (f : Shot → Shot) : Prop where
  raw : ∀ sh, extentsOf (f sh).raw = extentsOf sh.raw
  rendition : ∀ sh, extentsOf (f sh).rendition = extentsOf sh.rendition
  ring : ∀ sh, (f sh).state = .ring → sh.state = .ring ∧ (sh.number = none → (f sh).number = none)
    ∧ (sh.rendition = none → (f sh).rendition = none)

theorem State.Inner.mapShot {r s : State} (h : r.Inner s) (i : Nat) (f : Shot → Shot) (hf : ShotMap f) :
    r.Inner (s.mapShot i f) := by
  refine h.next ?_ fun _ x => ⟨⟨?_, ?_, ?_, ?_⟩, ?_⟩
  · simp [State.fixed]
  · unfold State.mapShot; split
    · exact x.partitioned.places
    · rename_i sh hs
      have e : ((s.setSbm (s.sbm.put i (some (f sh)))).sbm).places = s.sbm.places := by
        simp only [State.setSbm_sbm, Sbm.places, Sbm.put]
        rw [flatMap_set Shot.extents _ i (some sh) _ (Sbm.shot_get hs) (by simp [Shot.extents, hf.raw, hf.rendition])]
      rw [e]; exact x.partitioned.places
  · unfold State.mapShot; split
    · exact x.partitioned.ring
    · rename_i sh hs
      intro e he
      simp only [State.setSbm_sbm, Sbm.put] at he
      rcases List.mem_or_eq_of_mem_set he with h1 | h1
      · exact x.partitioned.ring e h1
      · subst h1
        intro sh' e' hr
        cases e'
        have h2 := hf.ring sh hr
        have h3 := x.partitioned.ring _ (List.mem_of_getElem? (Sbm.shot_get hs)) sh rfl h2.1
        exact ⟨h2.2.1 h3.1, h2.2.2 h3.2⟩
  · rw [State.mapShot_crd]; exact x.partitioned.recallsA
  · rw [State.mapShot_crd]; exact x.partitioned.recallsB
  · rw [State.mapShot_link]; exact x.bounded

/-- A change of an object that keeps its extents. -/
theorem State.Inner.mapObj {r s : State} (h : r.Inner s) (i : Nat) (k : Pict) (f : Obj → Obj)
    (hf : ∀ o, (f o).extents = o.extents) : r.Inner (s.mapObj i k f) := by
  refine h.mapShot i _ ⟨fun sh => ?_, fun sh => ?_, fun sh => ?_⟩
  · cases k <;> simp [Shot.setObj, Shot.obj, extentsOf, Function.comp_def, hf]
  · cases k <;> simp [Shot.setObj, Shot.obj, extentsOf, Function.comp_def, hf]
  · cases k <;> simp +contextual [Shot.setObj, Shot.obj]

theorem State.Inner.place {r s : State} (h : r.Inner s) (i : Nat) (k : Pict) (hd : Hold) : r.Inner (s.place i k hd) :=
  h.mapObj i k _ fun _ => rfl

theorem State.Inner.setCardStatus {r s : State} (h : r.Inner s) (i : Nat) (k : Pict) (sl : Slot) (v : CardStatus) :
    r.Inner (s.setCardStatus i k sl v) :=
  h.mapShot i _ ⟨fun _ => rfl, fun _ => rfl, fun _ x => ⟨x, id, id⟩⟩

/-- An entry emptied that names no extent. -/
theorem State.Inner.putNone {r s : State} (h : r.Inner s) (i : Nat) (he : Shot.extents (s.shot i) = []) :
    r.Inner (s.setSbm (s.sbm.put i none)) := by
  refine h.next rfl fun _ x => ⟨⟨?_, ?_, x.partitioned.recallsA, x.partitioned.recallsB⟩, x.bounded⟩
  · have e : (s.sbm.put i none).places = s.sbm.places := by
      unfold Sbm.places Sbm.put
      cases hx : s.sbm.shots[i]? with
      | none => simp [List.set_eq_of_length_le (List.getElem?_eq_none_iff.mp hx)]
      | some e =>
        have : s.shot i = e := by simp [State.shot, Sbm.shot, hx]
        rw [flatMap_set Shot.extents _ i e none hx (by rw [this] at he; simpa [Shot.extents] using he.symm)]
    exact e ▸ x.partitioned.places
  · intro e he
    rcases List.mem_or_eq_of_mem_set he with h1 | h1
    · exact x.partitioned.ring e h1
    · subst h1; intro sh e'; cases e'

/-- A FREE entry taken by a record that names no extent. -/
theorem State.Inner.putSome {r s : State} (h : r.Inner s) (i : Nat) (sh : Shot) (hi : s.shot i = none)
    (he : Shot.extents (some sh) = []) (hr : Shot.ringOk (some sh)) : r.Inner (s.setSbm (s.sbm.put i (some sh))) := by
  refine h.next rfl fun _ x => ⟨⟨?_, ?_, x.partitioned.recallsA, x.partitioned.recallsB⟩, x.bounded⟩
  · have e : (s.sbm.put i (some sh)).places = s.sbm.places := by
      unfold Sbm.places Sbm.put
      cases hx : s.sbm.shots[i]? with
      | none => simp [List.set_eq_of_length_le (List.getElem?_eq_none_iff.mp hx)]
      | some e =>
        have : s.shot i = e := by simp [State.shot, Sbm.shot, hx]
        rw [flatMap_set Shot.extents _ i e (some sh) hx (by rw [← this, hi]; simpa [Shot.extents] using he)]
    exact e ▸ x.partitioned.places
  · intro e he
    rcases List.mem_or_eq_of_mem_set he with h1 | h1
    · exact x.partitioned.ring e h1
    · subst h1; exact hr

/-! ### Removal, holds and retirement (R3, R10, R15) -/

theorem Shot.setObj_extents (sh : Shot) (k : Pict) (hk : k ≠ .thumb) (o : Option Obj) :
    (extentsOf (sh.obj k) ++ Shot.extents (some (sh.setObj k o))).Perm (extentsOf o ++ Shot.extents (some sh)) := by
  cases k with
  | thumb => exact absurd rfl hk
  | raw => simpa [Shot.obj, Shot.setObj, Shot.extents] using List.perm_append_comm_assoc _ _ _
  | rendition =>
    simp only [Shot.obj, Shot.setObj, Shot.extents]
    refine (List.perm_append_comm_assoc ..).trans ?_
    refine (List.Perm.append_left _ List.perm_append_comm).trans ?_
    exact List.perm_append_comm_assoc ..

theorem State.Inner.removeObj {r s : State} (h : r.Inner s) (i : Nat) (k : Pict) : r.Inner (s.removeObj i k) := by
  unfold State.removeObj
  split
  · exact h
  · rename_i o ho
    refine State.Inner.announceSpace (h.next (by simp [State.fixed]) fun _ x => ?_)
    unfold State.obj at ho
    cases hs : s.shot i with
    | none => simp [hs] at ho
    | some sh =>
      have ho' : sh.obj k = some o := by simpa [hs] using ho
      have hk : k ≠ .thumb := by rintro rfl; simp [Shot.obj] at ho'
      have hm : s.mapShot i (fun sh => sh.setObj k none) = s.setSbm (s.sbm.put i (some (sh.setObj k none))) := by
        simp [State.mapShot, hs]
      refine ⟨⟨?_, ?_, ?_, ?_⟩, ?_⟩
      · simp only [hm, State.setSbm_sbm, Sbm.places, Sbm.put]
        refine List.Perm.trans ?_ x.partitioned.places
        unfold Sbm.places
        rw [List.append_assoc]
        refine List.Perm.append_left _ ?_
        refine ((ascending_perm o.extents).append_right _).trans ?_
        have h1 := flatMap_set_perm Shot.extents s.sbm.shots i (some sh) (some (sh.setObj k none)) (Sbm.shot_get hs)
        have h2 := Shot.setObj_extents sh k hk none
        rw [ho'] at h2
        simp only [extentsOf, Option.map_some, Option.getD_some, Option.map_none, Option.getD_none, List.nil_append] at h2
        have h3 := (h2.append_right ((s.sbm.shots.set i (some (sh.setObj k none))).flatMap Shot.extents)).trans h1
        rw [List.append_assoc] at h3
        have h4 := (List.perm_append_comm_assoc o.extents (Shot.extents (some (sh.setObj k none)))
          ((s.sbm.shots.set i (some (sh.setObj k none))).flatMap Shot.extents)).symm.trans h3
        exact (List.perm_append_left_iff _).mp h4
      · simp only [hm, State.setSbm_sbm, Sbm.put]
        intro e he
        rcases List.mem_or_eq_of_mem_set he with h1 | h1
        · exact x.partitioned.ring e h1
        · subst h1
          intro sh' e' hr
          cases e'
          have h3 := x.partitioned.ring _ (List.mem_of_getElem? (Sbm.shot_get hs)) sh rfl
          cases k <;> simp_all [Shot.setObj]
      · rw [State.setSbm_crd, State.mapShot_crd]; exact x.partitioned.recallsA
      · rw [State.setSbm_crd, State.mapShot_crd]; exact x.partitioned.recallsB
      · rw [State.setSbm_link, State.mapShot_link]; exact x.bounded

theorem State.Inner.checkRetire {r s : State} (h : r.Inner s) (i : Nat) : r.Inner (s.checkRetire i) := by
  unfold State.checkRetire
  split
  · exact h
  · rename_i sh hs
    split
    · exact h
    · split
      · rename_i hc
        refine State.Inner.announceRetirement (State.Inner.raise (h.putNone i ?_) _ _)
        simp only [Bool.and_eq_true, Option.isNone_iff_eq_none] at hc
        simp [hs, Shot.extents, extentsOf, hc]
      · exact h

theorem State.Inner.checkRetireShot {r s : State} (h : r.Inner s) (n : Nat) : r.Inner (s.checkRetireShot n) := by
  unfold State.checkRetireShot; split
  · exact h
  · exact h.checkRetire _

theorem State.Inner.setHolds {r s : State} (h : r.Inner s) (i : Nat) (k : Pict) (f : HoldSet → HoldSet) :
    r.Inner (s.setHolds i k f) := by
  unfold State.setHolds; split
  · exact h
  · split
    · exact (h.removeObj i k).checkRetire i
    · exact h.mapObj i k _ fun _ => rfl

theorem State.Inner.releaseHold {r s : State} (h : r.Inner s) (i : Nat) (k : Pict) (hd : Hold) :
    r.Inner (s.releaseHold i k hd) := h.setHolds i k _

/-! ### Reservation (R2) -/

/-- A record changed in place under a free list that has changed. -/
theorem State.setSbm_mapShot (s : State) (b : Sbm) (hb : b.shots = s.sbm.shots) {i : Nat} {sh : Shot} (hs : s.shot i = some sh)
    (f : Shot → Shot) :
    (s.setSbm b).mapShot i f = s.setSbm { b with shots := s.sbm.shots.set i (some (f sh)) } := by
  have e : (s.setSbm b).shot i = some sh := by
    simp only [State.shot, State.setSbm_sbm, Sbm.shot, hb] at *; exact hs
  simp only [State.mapShot, e, State.setSbm_setSbm, State.setSbm_sbm, Sbm.put, hb]

/-- A new object of an entry in use takes its extents from the head of the free list. -/
theorem State.Inner.newObject {r s : State} (h : r.Inner s) {i n : Nat} {k : Pict} {o : Obj} {sh : Shot}
    (hk : s.Sound → k ≠ .thumb) (hs : s.shot i = some sh) (ho : sh.obj k = none)
    (hr : s.Sound → k = .rendition → sh.state ≠ .ring)
    (he : o.extents = s.sbm.freeList.take n) :
    r.Inner ((s.setSbm { s.sbm with freeList := s.sbm.freeList.drop n }).mapShot i fun sh => sh.setObj k (some o)) := by
  rw [s.setSbm_mapShot { s.sbm with freeList := s.sbm.freeList.drop n } rfl hs]
  refine h.next (by simp [State.fixed]) fun _ x => ⟨⟨?_, ?_, x.partitioned.recallsA, x.partitioned.recallsB⟩, x.bounded⟩
  · refine List.Perm.trans ?_ x.partitioned.places
    simp only [State.setSbm_sbm, Sbm.places]
    have h1 := flatMap_set_perm Shot.extents s.sbm.shots i (some sh) (some (sh.setObj k (some o))) (Sbm.shot_get hs)
    have h2 := Shot.setObj_extents sh k (hk x) (some o)
    rw [ho] at h2
    simp only [extentsOf, Option.map_none, Option.getD_none, List.nil_append, Option.map_some, Option.getD_some, he] at h2
    have h4 := h1.trans (h2.append_right _)
    rw [List.append_assoc] at h4
    have h5 := (h4.trans (List.perm_append_comm_assoc ..))
    refine (((List.perm_append_left_iff _).mp h5).append_left _).trans ?_
    refine (List.perm_append_comm_assoc ..).trans ?_
    rw [← List.append_assoc, List.take_append_drop]
  · intro e he
    rcases List.mem_or_eq_of_mem_set he with h1 | h1
    · exact x.partitioned.ring e h1
    · subst h1
      intro sh' e' hring
      cases e'
      have h3 := x.partitioned.ring _ (List.mem_of_getElem? (Sbm.shot_get hs)) sh rfl
      cases k with
      | thumb => exact absurd rfl (hk x)
      | raw => exact h3 hring
      | rendition => exact absurd hring (hr x rfl)

/-- A reservation for an entry in use that has no such object; a RING entry reserves a raw only. -/
theorem State.Inner.reserve {r s t : State} (h : r.Inner s) {i : Nat} {k : Pict} {size : Nat} {p : Producer}
    {sc : Option Scale} {ring : Bool} {d : PictData} {sh : Shot} (hk : s.Sound → k ≠ .thumb)
    (hs : s.shot i = some sh) (ho : sh.obj k = none) (hr : s.Sound → k = .rendition → sh.state ≠ .ring) (ht : s.reserve i k size p sc ring d = some t) :
    r.Inner t := by
  by_cases hc : extentsFor size ≤ s.sbm.freeCount
  · have e : s.reserve i k size p sc ring d
        = some ((s.setSbm { s.sbm with freeList := s.sbm.freeList.drop (extentsFor size) }).mapShot i fun sh =>
            sh.setObj k (some (newObj size (s.sbm.freeList.take (extentsFor size)) p sc ring d))) := if_pos hc
    rw [e, Option.some.injEq] at ht
    exact ht ▸ h.newObject hk hs ho hr rfl
  · have e : s.reserve i k size p sc ring d = none := if_neg hc
    rw [e] at ht; cases ht

end Sys2Proof.Machine
end

