-- ==== Sys2Proof/Laws/Blocks.lean ====
section
/-! SUPPORT. What development, the cards, the tether and the recalls do within a step is only what `Inner` says, function by function. -/

namespace Sys2Proof.Machine
open Sys2Proof

/-! ### Develop.lean -/

theorem State.Inner.placeDevelop {s₀ s : State} (h : s₀.Inner s) (i : Nat) : s₀.Inner (s.placeDevelop i) := by
  unfold State.placeDevelop
  repeat' (first | with_reducible assumption | with_reducible apply State.Inner.place | dsimp only | split)

theorem State.Inner.addJob {s₀ s : State} (h : s₀.Inner s) (j : Job) : s₀.Inner (s.addJob j) := by
  unfold State.addJob
  repeat' (first | with_reducible assumption | with_reducible apply State.Inner.placeDevelop | with_reducible apply State.Inner.setDev | with_reducible apply State.Inner.notify | dsimp only | split)

theorem State.Inner.requestJob {s₀ s : State} (h : s₀.Inner s) (i : Nat) (k : Pict) (look : JobLook) : s₀.Inner (s.requestJob i k look).1 := by
  unfold State.requestJob
  repeat' (first | with_reducible assumption | with_reducible apply State.Inner.addJob | dsimp only | split)

theorem State.Inner.jobsGone {s₀ s : State} (h : s₀.Inner s) (n : Nat) : s₀.Inner (s.jobsGone n) := by
  unfold State.jobsGone
  repeat' (first | with_reducible assumption | with_reducible apply State.Inner.checkRetire | with_reducible apply State.Inner.releaseHold | dsimp only | split)

theorem State.Inner.dropJobs {s₀ s : State} (h : s₀.Inner s) (p : Job → Bool) (n : Nat) : s₀.Inner (s.dropJobs p n) := by
  unfold State.dropJobs
  repeat' (first | with_reducible assumption | with_reducible apply State.Inner.jobsGone | with_reducible apply State.Inner.setDev)

theorem State.Inner.dropOrphanJobs {s₀ s : State} (h : s₀.Inner s) (n : Nat) : s₀.Inner (s.dropOrphanJobs n) := by
  unfold State.dropOrphanJobs
  repeat' (first | with_reducible assumption | with_reducible apply State.Inner.dropJobs | dsimp only | split)

theorem State.Inner.setEngine {s₀ s : State} (h : s₀.Inner s) (e : Engine) : s₀.Inner (s.setEngine e) := by
  unfold State.setEngine
  repeat' (first | with_reducible assumption | with_reducible apply State.Inner.setDev)

theorem State.Inner.startPass {s₀ s : State} (h : s₀.Inner s) (sh : Shot) (j : Job) : s₀.Inner (s.startPass sh j) := by
  unfold State.startPass
  repeat' (first | with_reducible assumption | with_reducible apply State.Inner.mapShot | exact ⟨fun _ => rfl, fun _ => rfl, fun _ x => ⟨x, id, id⟩⟩)

theorem State.Inner.takeRendition {s₀ s : State} (h : s₀.Inner s) (sh : Shot) (j : Job) (hs : s.shot j.entry = some sh)
    (ho : sh.rendition = none) (hn : sh.number ≠ none) : s₀.Inner (s.takeRendition sh j) := by
  unfold State.takeRendition
  dsimp only
  split
  · exact h.setEngine _
  · rename_i s1 e
    have h1 : s₀.Inner s1 := h.reserve (k := .rendition) (fun _ hk => by cases hk) hs ho
      (fun x _ hr => hn (x.partitioned.ring _ (List.mem_of_getElem? (Sbm.shot_get hs)) sh rfl hr).1) e
    refine ((h1.mapShot _ _ (by exact ⟨fun _ => rfl, fun _ => rfl, fun _ x => ⟨x, id, id⟩⟩)).startPass _ _).setEngine _

theorem State.Inner.engineLook {s₀ s : State} (h : s₀.Inner s) : s₀.Inner s.engineLook := by
  have look : s₀.Inner (match s.headJob with
      | none => s.setEngine .idle
      | some j =>
        match s.shot j.entry with
        | none => s
        | some sh =>
          if j.kind = .thumb then (s.startPass sh j).setEngine (.thumbPass (s.newPass sh j .thumb))
          else s.takeRendition sh j) := by
    split
    · exact h.setEngine _
    · rename_i j ej
      split
      · exact h
      · rename_i sh es
        split
        · exact (h.startPass _ _).setEngine _
        · rename_i hk
          have hr := List.find?_some ej
          unfold State.jobReady at hr
          rw [es] at hr
          simp only [Option.any_some, Bool.and_eq_true, Bool.or_eq_true, beq_iff_eq, Option.isNone_iff_eq_none] at hr
          refine h.takeRendition sh j es ?_ ?_
          · exact hr.2.resolve_left hk
          · rw [hr.1.1]; simp
  unfold State.engineLook
  split
  · exact h
  · exact h
  · split
    · exact h
    · exact look
  · split
    · exact h
    · exact look

theorem State.Inner.lookIf {s₀ s : State} (h : s₀.Inner s) (event : Bool) : s₀.Inner (s.lookIf event) := by
  unfold State.lookIf
  split
  · exact h.notify _
  · exact h

theorem State.Inner.jobsReady {s₀ s : State} (h : s₀.Inner s) (i : Nat) : s₀.Inner (s.jobsReady i) := h.lookIf _

theorem State.Inner.moveUrgent {s₀ s : State} (h : s₀.Inner s) (n : Nat) (urgent : Bool) : s₀.Inner (s.moveUrgent n urgent) := by
  unfold State.moveUrgent
  repeat' (first | with_reducible assumption | with_reducible apply State.Inner.engineLook | with_reducible apply State.Inner.setDev | with_reducible apply State.Inner.notify | dsimp only | split)

/-! ### Cards.lean -/

theorem State.Inner.tryStart {s₀ s : State} (h : s₀.Inner s) (sl : Slot) : s₀.Inner (s.tryStart sl) := by
  unfold State.tryStart
  split
  · exact h
  · split
    · exact h
    · rename_i j js _
      extract_lets c c1
      have e1 : c1.recalls = (s.slot sl).recalls := by
        show CardSlot.recalls (if _ then _ else _) = _
        split
        · exact CardSlot.takePending_recalls _
        · rfl
      clear_value c1
      split
      · exact State.Inner.setCardStatus (h.setSlot _ _ (by exact fun x => x.of_eq e1)) _ _ _ _
      · exact State.Inner.raise (h.setSlot _ _ (by exact fun x => x.of_eq e1)) _ _

theorem State.Inner.joinQueue {s₀ s : State} (h : s₀.Inner s) (sl : Slot) (j : WriteJob) (try' : State → State)
    (ht : ∀ t, s₀.Inner t → s₀.Inner (try' t)) : s₀.Inner (s.joinQueue sl j try') := by
  unfold State.joinQueue
  dsimp only
  split
  · exact ht _ (h.setSlot _ _ fun x => x)
  · exact h.setSlot _ _ fun x => x

theorem State.Inner.moveJob {s₀ s : State} (h : s₀.Inner s) (left : CardStatus) (j : WriteJob) : s₀.Inner (s.moveJob left j) := by
  unfold State.moveJob
  have h1 := (h.setCardStatus j.entry j.kind .a left).mapObj j.entry j.kind
    (fun o => { o with holds := (o.holds.set .cardA false).set .cardB true }) fun _ => rfl
  dsimp only
  split
  · exact h1
  · exact (h1.setCardStatus _ _ _ _).joinQueue _ _ _ fun _ ht => ht.tryStart _

theorem State.Inner.moveQueue {s₀ s : State} (h : s₀.Inner s) : s₀.Inner s.moveQueue := by
  unfold State.moveQueue
  repeat' (first | with_reducible assumption | with_reducible apply State.Inner.moveJob | with_reducible apply State.Inner.setSlot | with_reducible refine State.Inner.foldl _ _ ?_ (fun t x h => ?_) | exact fun x => x)

theorem State.Inner.tryHead {s₀ s : State} (h : s₀.Inner s) (sl : Slot) : s₀.Inner (s.tryHead sl) := by
  unfold State.tryHead
  repeat' (first | with_reducible assumption | with_reducible apply State.Inner.tryStart | with_reducible apply State.Inner.moveQueue | dsimp only | split)

theorem State.Inner.enqueueJob {s₀ s : State} (h : s₀.Inner s) (i : Nat) (k : Pict) (sl : Slot) : s₀.Inner (s.enqueueJob i k sl) := by
  unfold State.enqueueJob
  split
  · refine State.Inner.joinQueue ?_ _ _ _ fun _ ht => ht.tryHead _
    exact (h.setCardStatus _ _ _ _).mapObj _ _ _ fun _ => rfl
  · exact h

theorem State.Inner.enqueueOn {s₀ s : State} (h : s₀.Inner s) (i : Nat) (k : Pict) (ts : List Slot) : s₀.Inner (s.enqueueOn i k ts) := by
  unfold State.enqueueOn
  repeat' (first | with_reducible assumption | with_reducible apply State.Inner.enqueueJob | with_reducible refine State.Inner.foldl _ _ ?_ (fun t x h => ?_))

theorem State.Inner.cardJobs {s₀ s : State} (h : s₀.Inner s) (i : Nat) (k : Pict) : s₀.Inner (s.cardJobs i k) := by
  unfold State.cardJobs
  repeat' (first | with_reducible assumption | with_reducible apply State.Inner.enqueueOn | with_reducible apply State.Inner.place | dsimp only | split)

theorem State.Inner.sweep {s₀ s : State} (h : s₀.Inner s) : s₀.Inner s.sweep := by
  unfold State.sweep
  repeat' (first | with_reducible assumption | with_reducible apply State.Inner.enqueueOn | with_reducible refine State.Inner.foldl _ _ ?_ (fun t x h => ?_))

theorem State.Inner.endCardJob {s₀ s : State} (h : s₀.Inner s) (i : Nat) (k : Pict) (sl : Slot) (st : CardStatus) : s₀.Inner (s.endCardJob i k sl st) := by
  unfold State.endCardJob
  repeat' (first | with_reducible assumption | with_reducible apply State.Inner.setCardStatus | with_reducible apply State.Inner.setHolds | dsimp only | split)

theorem State.Inner.queueRecall {s₀ s : State} (h : s₀.Inner s) (e : IndexEntry) (host : Bool) (item : Option Nat)
    (hk : e.kind ≠ .thumb) : s₀.Inner (s.queueRecall e host item) := by
  unfold State.queueRecall
  refine State.Inner.notify (h.setSlot _ _ fun x r hr => ?_) _
  rcases List.mem_append.mp hr with hr | hr
  · exact x r hr
  · rw [List.mem_singleton.mp hr]; exact hk

theorem State.Inner.mergeRecall {s₀ s : State} (h : s₀.Inner s) (sl : Slot) (n : Nat) (k : Pict) (host : Bool) (item : Option Nat) :
    s₀.Inner (s.setSlot sl ((s.slot sl).mergeRecall n k host item)) := by
  refine h.setSlot _ _ fun x r hr => ?_
  obtain ⟨y, hy, rfl⟩ := List.mem_map.mp hr
  have := x y hy
  split <;> exact this

theorem State.Inner.requestRecall {s₀ s : State} (h : s₀.Inner s) (n : Nat) (k : Pict) (host : Bool) (item : Option Nat)
    (hk : k ≠ .thumb) : s₀.Inner (s.requestRecall n k host item).1 := by
  unfold State.requestRecall
  dsimp only
  split
  · exact h
  split
  · exact h
  split
  · exact h.mergeRecall .a n k host item
  split
  · exact h.mergeRecall .b n k host item
  split
  · exact h
  · split
    · exact h
    · split
      · exact h
      · rename_i e he
        refine h.queueRecall e host item ?_
        have h1 : e ∈ s.indexOf n k := by
          exact (List.mem_filter.mp (List.mem_of_find?_eq_some he)).1
        have h2 := (List.mem_filter.mp h1).2
        simp only [Bool.and_eq_true, beq_iff_eq] at h2
        rw [h2.2]; exact hk

theorem State.Inner.recallGone {s₀ s : State} (h : s₀.Inner s) (n : Nat) (k : Pict) : s₀.Inner (s.recallGone n k) := by
  unfold State.recallGone
  repeat' (first | with_reducible assumption | with_reducible apply State.Inner.dropOrphanJobs | with_reducible apply State.Inner.checkRetireShot | dsimp only | split)

theorem State.Inner.withdrawIn {s₀ s : State} (h : s₀.Inner s) (m : Nat) (sl : Slot) : s₀.Inner (s.withdrawIn m sl) := by
  unfold State.withdrawIn
  have h1 : s₀.Inner (s.setSlot sl { s.slot sl with
      recalls := ((s.slot sl).recalls.filter fun r => !r.onlyFor m).map (Recall.without m) }) :=
    h.setSlot _ _ fun x => x.filterMap _ (Recall.without m) (fun _ => rfl) rfl
  dsimp only
  split
  · exact h1
  · exact State.Inner.foldl _ _ (h1.notify _) fun t x ht => ht.recallGone _ _

theorem State.Inner.withdraw {s₀ s : State} (h : s₀.Inner s) (m : Nat) : s₀.Inner (s.withdraw m) := by
  unfold State.withdraw
  repeat' (first | with_reducible assumption | with_reducible apply State.Inner.withdrawIn)

/-! ### Tether.lean -/

theorem State.Inner.pushTx {s₀ s : State} (h : s₀.Inner s) (f : RelayFrame) : s₀.Inner (s.pushTx f) := by
  unfold State.pushTx
  repeat' (first | with_reducible assumption | with_reducible apply State.Inner.setTet | dsimp only | split)

theorem State.Inner.reportLink {s₀ s : State} (h : s₀.Inner s) (old : LinkState) (cause : LinkCause) : s₀.Inner (s.reportLink old cause) := by
  unfold State.reportLink
  repeat' (first | with_reducible assumption | with_reducible apply State.Inner.raise)

theorem State.Inner.returnTransfer {s₀ s : State} (h : s₀.Inner s) (cancel : Bool) : s₀.Inner (s.returnTransfer cancel) := by
  unfold State.returnTransfer
  repeat' (first | with_reducible assumption | with_reducible apply State.Inner.pushTx | with_reducible apply State.Inner.setTet | with_reducible apply State.Inner.notify | dsimp only | split)

theorem State.Inner.cancelTransfer {s₀ s : State} (h : s₀.Inner s) : s₀.Inner s.cancelTransfer := by
  unfold State.cancelTransfer
  repeat' (first | with_reducible assumption | with_reducible apply State.Inner.pushTx | with_reducible apply State.Inner.setTet | with_reducible apply State.Inner.notify | dsimp only | split)

theorem State.Inner.enterLink {s₀ s : State} (h : s₀.Inner s) (new : LinkState) (cause : LinkCause) : s₀.Inner (s.enterLink new cause) := by
  unfold State.enterLink
  repeat' (first | with_reducible assumption | with_reducible apply State.Inner.reportLink | with_reducible apply State.Inner.returnTransfer | with_reducible apply State.Inner.setTet | with_reducible apply State.Inner.notify | dsimp only | split)

theorem State.Inner.judgeLink {s₀ s : State} (h : s₀.Inner s) (cause : LinkCause) : s₀.Inner (s.judgeLink cause) := by
  unfold State.judgeLink
  repeat' (first | with_reducible assumption | with_reducible apply State.Inner.enterLink | dsimp only | split)

theorem State.Inner.raiseTec {s₀ s : State} (h : s₀.Inner s) : s₀.Inner s.raiseTec := by
  unfold State.raiseTec
  repeat' (first | with_reducible assumption | with_reducible apply State.Inner.judgeLink | with_reducible apply State.Inner.setTet)

theorem State.Inner.lowerTec {s₀ s : State} (h : s₀.Inner s) : s₀.Inner s.lowerTec := by
  unfold State.lowerTec
  repeat' (first | with_reducible assumption | with_reducible apply State.Inner.judgeLink | with_reducible apply State.Inner.setTet)

theorem State.Inner.badFrame {s₀ s : State} (h : s₀.Inner s) : s₀.Inner s.badFrame := by
  unfold State.badFrame
  repeat' (first | with_reducible assumption | with_reducible apply State.Inner.judgeLink | with_reducible apply State.Inner.setTet)

theorem State.Inner.goodFrame {s₀ s : State} (h : s₀.Inner s) : s₀.Inner s.goodFrame := by
  unfold State.goodFrame
  repeat' (first | with_reducible assumption | with_reducible apply State.Inner.judgeLink | with_reducible apply State.Inner.setTet)

theorem State.Inner.mapItem {s₀ s : State} (h : s₀.Inner s) (m : Nat) (f : Item → Item) : s₀.Inner (s.mapItem m f) := by
  unfold State.mapItem
  repeat' (first | with_reducible assumption | with_reducible apply State.Inner.setTet)

theorem State.Inner.decline {s₀ s : State} (h : s₀.Inner s) (item : Option Nat) (n : Nat) (k : Pict) (origin : Origin) (rule transfer : Option Nat) (reason : DeclineReason) : s₀.Inner (s.decline item n k origin rule transfer reason) := by
  unfold State.decline
  repeat' (first | with_reducible assumption | with_reducible apply State.Inner.setTet | with_reducible apply State.Inner.raise)

theorem State.Inner.placeTether {s₀ s : State} (h : s₀.Inner s) (n : Nat) (k : Pict) : s₀.Inner (s.placeTether n k) := by
  unfold State.placeTether
  repeat' (first | with_reducible assumption | with_reducible apply State.Inner.place | dsimp only | split)

theorem State.Inner.itemReady {s₀ s : State} (h : s₀.Inner s) (n : Nat) (k : Pict) : s₀.Inner (s.itemReady n k) := by
  unfold State.itemReady
  repeat' (first | with_reducible assumption | with_reducible apply State.Inner.placeTether | with_reducible apply State.Inner.notify)

theorem State.Inner.itemGone {s₀ s : State} (h : s₀.Inner s) (x : Item) : s₀.Inner (s.itemGone x) := by
  unfold State.itemGone
  repeat' (first | with_reducible assumption | with_reducible apply State.Inner.withdraw | with_reducible apply State.Inner.checkRetireShot | with_reducible apply State.Inner.releaseHold | dsimp only | split)

theorem State.Inner.removeItem {s₀ s : State} (h : s₀.Inner s) (x : Item) : s₀.Inner (s.removeItem x) := by
  unfold State.removeItem
  repeat' (first | with_reducible assumption | with_reducible apply State.Inner.cancelTransfer | with_reducible apply State.Inner.itemGone | with_reducible apply State.Inner.setTet | dsimp only | split)

theorem State.Inner.notifyExpired {s₀ s : State} (h : s₀.Inner s) (m : Nat) (deadline : Option Nat) : s₀.Inner (s.notifyExpired m deadline) := by
  unfold State.notifyExpired
  repeat' (first | with_reducible assumption | with_reducible apply State.Inner.notify | dsimp only | split)

theorem State.Inner.makeItem {s₀ s : State} (h : s₀.Inner s) (n : Nat) (k : Pict) (priority : Nat) (deadline : Option Nat) (policy : Policy) (origin : Origin) (st : ItemState) : s₀.Inner (s.makeItem n k priority deadline policy origin st) := by
  unfold State.makeItem
  repeat' (first | with_reducible assumption | with_reducible apply State.Inner.itemReady | with_reducible apply State.Inner.notifyExpired | with_reducible apply State.Inner.setTet | dsimp only | split)

theorem State.Inner.judgeRise {s₀ s : State} (h : s₀.Inner s) (old new : Nat) (waiting : Bool) : s₀.Inner (s.judgeRise old new waiting) := by
  unfold State.judgeRise
  repeat' (first | with_reducible assumption | with_reducible apply State.Inner.notify | dsimp only | split)

theorem State.Inner.mergeItem {s₀ s : State} (h : s₀.Inner s) (x : Item) (priority : Nat) (deadline : Option Nat) (policy : Policy) : s₀.Inner (s.mergeItem x priority deadline policy) := by
  unfold State.mergeItem
  repeat' (first | with_reducible assumption | with_reducible apply State.Inner.mapItem | with_reducible apply State.Inner.notifyExpired | with_reducible apply State.Inner.judgeRise)

theorem State.Inner.raiseItems {s₀ s : State} (h : s₀.Inner s) (n : Nat) : s₀.Inner (s.raiseItems n) := by
  unfold State.raiseItems
  repeat' (first | with_reducible assumption | with_reducible apply State.Inner.setTet | with_reducible apply State.Inner.notify | dsimp only | split)

theorem State.Inner.recallFor {s₀ s : State} (h : s₀.Inner s) (n : Nat) (k : Pict) (m : Nat) (hk : k ≠ .thumb) :
    s₀.Inner (s.recallFor n k m).1 := h.requestRecall _ _ _ _ hk

theorem State.Inner.recallToDevelop {s₀ s : State} (h : s₀.Inner s) (i n : Nat) (sh : Shot) (m : Nat) :
    s₀.Inner (s.recallToDevelop i n sh m).1 := by
  unfold State.recallToDevelop
  have h1 := h.requestRecall n .raw false (some m) (by simp)
  dsimp only
  split <;> first | exact h1.requestJob _ _ _ | exact h1

theorem State.Inner.findRendition {s₀ s : State} (h : s₀.Inner s) (i n : Nat) (sh : Shot) (m : Nat) :
    s₀.Inner (s.findRendition i n sh m).1 := by
  unfold State.findRendition
  split
  · exact h.recallFor _ _ _ (by simp)
  · split
    · exact h.recallToDevelop _ _ _ _
    · exact h

theorem State.Inner.findCommitted {s₀ s : State} (h : s₀.Inner s) (i n : Nat) (sh : Shot) (k : Pict) (m : Nat) :
    s₀.Inner (s.findCommitted i n sh k m).1 := by
  unfold State.findCommitted
  dsimp only
  split
  · split
    · exact h
    · split <;> exact h.requestJob _ _ _
  · split
    · exact h
    · split
      · split <;> first | exact h.requestJob _ _ _ | exact (h.requestJob _ _ _).findRendition _ _ _ _
      · exact h.findRendition _ _ _ _
  · split
    · exact h
    · exact h.recallFor _ _ _ (by simp)

theorem State.Inner.findPicture {s₀ s : State} (h : s₀.Inner s) (n : Nat) (k : Pict) (m : Nat) :
    s₀.Inner (s.findPicture n k m).1 := by
  unfold State.findPicture
  split
  · exact h.findCommitted _ _ _ _ _
  · split
    · exact h
    all_goals
      split
      · exact h.recallFor _ _ _ (by simp)
      · exact h

theorem State.Inner.requestItem {s₀ s : State} (h : s₀.Inner s) (n : Nat) (k : Pict) (priority : Nat) (deadline : Option Nat) (policy : Policy) (origin : Origin) : s₀.Inner (s.requestItem n k priority deadline policy origin).1 := by
  unfold State.requestItem
  repeat' (first | with_reducible assumption | with_reducible apply State.Inner.makeItem | with_reducible apply State.Inner.mergeItem | with_reducible apply State.Inner.findPicture | dsimp only | split)

theorem State.Inner.itemsReady {s₀ s : State} (h : s₀.Inner s) (n : Nat) (k : Pict) : s₀.Inner (s.itemsReady n k) := by
  unfold State.itemsReady
  repeat' (first | with_reducible assumption | with_reducible apply State.Inner.itemReady | with_reducible apply State.Inner.setTet | dsimp only | split)

theorem State.Inner.relookItem {s₀ s : State} (h : s₀.Inner s) (x : Item) : s₀.Inner (s.relookItem x) := by
  unfold State.relookItem
  repeat' (first | with_reducible assumption | with_reducible apply State.Inner.mapItem | with_reducible apply State.Inner.decline | with_reducible apply State.Inner.itemReady | with_reducible apply State.Inner.removeItem | with_reducible apply State.Inner.findPicture | dsimp only | split)

theorem State.Inner.relookItems {s₀ s : State} (h : s₀.Inner s) (n : Nat) (k : Pict) : s₀.Inner (s.relookItems n k) := by
  unfold State.relookItems
  repeat' (first | with_reducible assumption | with_reducible apply State.Inner.relookItem | with_reducible refine State.Inner.foldl _ _ ?_ (fun t x h => ?_))

theorem State.Inner.failItem {s₀ s : State} (h : s₀.Inner s) (m : Nat) : s₀.Inner (s.failItem m) := by
  unfold State.failItem
  repeat' (first | with_reducible assumption | with_reducible apply State.Inner.decline | with_reducible apply State.Inner.removeItem | dsimp only | split)

theorem State.Inner.startTransfer {s₀ s : State} (h : s₀.Inner s) (x : Item) : s₀.Inner (s.startTransfer x) := by
  unfold State.startTransfer
  repeat' (first | with_reducible assumption | with_reducible apply State.Inner.pushTx | with_reducible apply State.Inner.mapItem | with_reducible apply State.Inner.setTet | with_reducible apply State.Inner.notify)

theorem State.Inner.linkAsk {s₀ s : State} (h : s₀.Inner s) : s₀.Inner s.linkAsk := by
  unfold State.linkAsk
  repeat' (first | with_reducible assumption | with_reducible apply State.Inner.startTransfer | dsimp only | split)

theorem State.Inner.preempt {s₀ s : State} (h : s₀.Inner s) : s₀.Inner s.preempt := by
  unfold State.preempt
  repeat' (first | with_reducible assumption | with_reducible apply State.Inner.returnTransfer | dsimp only | split)

theorem State.Inner.expireItem {s₀ s : State} (h : s₀.Inner s) (m : Nat) : s₀.Inner (s.expireItem m) := by
  unfold State.expireItem
  repeat' (first | with_reducible assumption | with_reducible apply State.Inner.mapItem | with_reducible apply State.Inner.removeItem | with_reducible apply State.Inner.setTet | with_reducible apply State.Inner.raise | dsimp only | split)

theorem State.Inner.expirePassed {s₀ s : State} (h : s₀.Inner s) : s₀.Inner s.expirePassed := by
  unfold State.expirePassed
  repeat' (first | with_reducible assumption | with_reducible apply State.Inner.expireItem | with_reducible refine State.Inner.foldl _ _ ?_ (fun t x h => ?_))

theorem State.Inner.tellRule {s₀ s : State} (h : s₀.Inner s) (n : Nat) (k : Pict) (index : Nat) (o : ItemOutcome) : s₀.Inner (s.tellRule n k index o) := by
  unfold State.tellRule
  repeat' (first | with_reducible assumption | with_reducible apply State.Inner.decline | with_reducible apply State.Inner.setTet | with_reducible apply State.Inner.raise | dsimp only | split)

theorem State.Inner.applyRule {s₀ s : State} (h : s₀.Inner s) (n start : Nat) (r : SendRule) (index : Nat) : s₀.Inner (s.applyRule n start r index) := by
  unfold State.applyRule
  repeat' (first | with_reducible assumption | with_reducible apply State.Inner.requestItem | with_reducible apply State.Inner.tellRule)

theorem State.Inner.evaluateRule {s₀ s : State} (h : s₀.Inner s) (i index : Nat) (r : SendRule) (which : RuleMatch → Bool) : s₀.Inner (s.evaluateRule i index r which) := by
  unfold State.evaluateRule
  repeat' (first | with_reducible assumption | with_reducible apply State.Inner.applyRule | dsimp only | split)

theorem State.Inner.evaluateRules {s₀ s : State} (h : s₀.Inner s) (i : Nat) (which : RuleMatch → Bool) : s₀.Inner (s.evaluateRules i which) := by
  unfold State.evaluateRules
  repeat' (first | with_reducible assumption | with_reducible apply State.Inner.evaluateRule)

/-! ### Relay.lean -/

theorem State.Inner.carrierUp {s₀ s : State} (h : s₀.Inner s) : s₀.Inner s.carrierUp := by
  unfold State.carrierUp
  repeat' (first | with_reducible assumption | with_reducible apply State.Inner.enterLink | with_reducible apply State.Inner.setTet | dsimp only | split)

theorem State.Inner.carrierDown {s₀ s : State} (h : s₀.Inner s) : s₀.Inner s.carrierDown := by
  unfold State.carrierDown
  repeat' (first | with_reducible assumption | with_reducible apply State.Inner.returnTransfer | with_reducible apply State.Inner.enterLink | with_reducible apply State.Inner.setTet | dsimp only | split)

theorem State.Inner.loseBeacons {s₀ s : State} (h : s₀.Inner s) : s₀.Inner s.loseBeacons := by
  unfold State.loseBeacons
  repeat' (first | with_reducible assumption | with_reducible apply State.Inner.returnTransfer | with_reducible apply State.Inner.enterLink | with_reducible apply State.Inner.setTet | dsimp only | split)

theorem State.Inner.countBeacon {s₀ s : State} (h : s₀.Inner s) (inSeq : Bool) : s₀.Inner (s.countBeacon inSeq) := by
  unfold State.countBeacon
  repeat' (first | with_reducible assumption | with_reducible apply State.Inner.enterLink | with_reducible apply State.Inner.setTet | dsimp only | split)

theorem State.Inner.recordBeacon {s₀ s : State} (h : s₀.Inner s) (counter : Nat) (status : StationStatus) : s₀.Inner (s.recordBeacon counter status) := by
  unfold State.recordBeacon
  repeat' (first | with_reducible assumption | with_reducible apply State.Inner.setTet)

theorem State.Inner.takeBeacon {s₀ s : State} (h : s₀.Inner s) (counter : Nat) (status : StationStatus) : s₀.Inner (s.takeBeacon counter status) := by
  unfold State.takeBeacon
  repeat' (first | with_reducible assumption | with_reducible apply State.Inner.reportLink | with_reducible apply State.Inner.enterLink | with_reducible apply State.Inner.linkAsk | with_reducible apply State.Inner.countBeacon | with_reducible apply State.Inner.recordBeacon | with_reducible apply State.Inner.notify | dsimp only | split)

theorem State.Inner.rejoinLink {s₀ s : State} (h : s₀.Inner s) : s₀.Inner s.rejoinLink := by
  unfold State.rejoinLink
  repeat' (first | with_reducible assumption | with_reducible apply State.Inner.enterLink | with_reducible apply State.Inner.linkAsk | with_reducible apply State.Inner.setTet | with_reducible apply State.Inner.notify | dsimp only | split)

theorem State.Inner.leaveStation {s₀ s : State} (h : s₀.Inner s) : s₀.Inner s.leaveStation := by
  unfold State.leaveStation
  repeat' (first | with_reducible assumption | with_reducible apply State.Inner.returnTransfer | with_reducible apply State.Inner.enterLink | with_reducible apply State.Inner.setTet | dsimp only | split)

theorem State.Inner.mapTransfer {s₀ s : State} (h : s₀.Inner s) (f : Transfer → Transfer) : s₀.Inner (s.mapTransfer f) := by
  unfold State.mapTransfer
  repeat' (first | with_reducible assumption | with_reducible apply State.Inner.setTet)

theorem State.Inner.offerAgain {s₀ s : State} (h : s₀.Inner s) : s₀.Inner s.offerAgain := by
  unfold State.offerAgain
  repeat' (first | with_reducible assumption | with_reducible apply State.Inner.pushTx | with_reducible apply State.Inner.raiseTec | with_reducible apply State.Inner.mapTransfer | dsimp only | split)

theorem State.Inner.goBack {s₀ s : State} (h : s₀.Inner s) : s₀.Inner s.goBack := by
  unfold State.goBack
  repeat' (first | with_reducible assumption | with_reducible apply State.Inner.raiseTec | with_reducible apply State.Inner.mapTransfer)

theorem State.Inner.endTransfer {s₀ s : State} (h : s₀.Inner s) (t : Transfer) : s₀.Inner (s.endTransfer t) := by
  unfold State.endTransfer
  repeat' (first | with_reducible assumption | with_reducible apply State.Inner.removeItem | with_reducible apply State.Inner.linkAsk | with_reducible apply State.Inner.setTet | with_reducible apply State.Inner.notify | dsimp only | split)

theorem State.Inner.deliver {s₀ s : State} (h : s₀.Inner s) (t : Transfer) (d : Delivery) : s₀.Inner (s.deliver t d) := by
  unfold State.deliver
  repeat' (first | with_reducible assumption | with_reducible apply State.Inner.endTransfer | with_reducible apply State.Inner.setTet | with_reducible apply State.Inner.raise)

theorem State.Inner.refuseTransfer {s₀ s : State} (h : s₀.Inner s) (t : Transfer) (r : DeclineReason) : s₀.Inner (s.refuseTransfer t r) := by
  unfold State.refuseTransfer
  repeat' (first | with_reducible assumption | with_reducible apply State.Inner.decline | with_reducible apply State.Inner.endTransfer)

theorem State.Inner.acceptTransfer {s₀ s : State} (h : s₀.Inner s) (start credit : Nat) : s₀.Inner (s.acceptTransfer start credit) := by
  unfold State.acceptTransfer
  repeat' (first | with_reducible assumption | with_reducible apply State.Inner.mapTransfer)

theorem State.Inner.ackTransfer {s₀ s : State} (h : s₀.Inner s) (t : Transfer) (j credit : Nat) : s₀.Inner (s.ackTransfer t j credit) := by
  unfold State.ackTransfer
  repeat' (first | with_reducible assumption | with_reducible apply State.Inner.lowerTec | with_reducible apply State.Inner.mapTransfer | with_reducible apply State.Inner.deliver | dsimp only | split)

theorem State.Inner.nakTransfer {s₀ s : State} (h : s₀.Inner s) (t : Transfer) (i : Nat) : s₀.Inner (s.nakTransfer t i) := by
  unfold State.nakTransfer
  repeat' (first | with_reducible assumption | with_reducible apply State.Inner.raiseTec | with_reducible apply State.Inner.mapTransfer | dsimp only | split)

theorem State.Inner.answerObject {s₀ s : State} (h : s₀.Inner s) (pull n : Nat) (k : Pict) (priority : Nat) : s₀.Inner (s.answerObject pull n k priority).1 := by
  unfold State.answerObject
  repeat' (first | with_reducible assumption | with_reducible apply State.Inner.pushTx | with_reducible apply State.Inner.requestItem)

theorem State.Inner.inboxPull {s₀ s : State} (h : s₀.Inner s) (p : Pull) : s₀.Inner (s.inboxPull p) := by
  unfold State.inboxPull
  repeat' (first | with_reducible assumption | with_reducible apply State.Inner.pushTx | with_reducible apply State.Inner.setTet | with_reducible apply State.Inner.raise | dsimp only | split)

theorem State.Inner.takePull {s₀ s : State} (h : s₀.Inner s) (id : Nat) (kind : PullKind) (n priority : Nat) : s₀.Inner (s.takePull id kind n priority) := by
  unfold State.takePull
  repeat' (first | with_reducible assumption | with_reducible apply State.Inner.pushTx | with_reducible apply State.Inner.answerObject | with_reducible apply State.Inner.inboxPull | dsimp only | split)

theorem State.Inner.takeAccept {s₀ s : State} (h : s₀.Inner s) (id start credit : Nat) : s₀.Inner (s.takeAccept id start credit) := by
  unfold State.takeAccept
  repeat' (first | with_reducible assumption | with_reducible apply State.Inner.acceptTransfer | dsimp only | split)

theorem State.Inner.takeRefuse {s₀ s : State} (h : s₀.Inner s) (id : Nat) (reason : RefuseReason) : s₀.Inner (s.takeRefuse id reason) := by
  unfold State.takeRefuse
  repeat' (first | with_reducible assumption | with_reducible apply State.Inner.deliver | with_reducible apply State.Inner.refuseTransfer | dsimp only | split)

theorem State.Inner.takeAck {s₀ s : State} (h : s₀.Inner s) (id j credit : Nat) : s₀.Inner (s.takeAck id j credit) := by
  unfold State.takeAck
  repeat' (first | with_reducible assumption | with_reducible apply State.Inner.ackTransfer | dsimp only | split)

theorem State.Inner.takeNak {s₀ s : State} (h : s₀.Inner s) (id i : Nat) : s₀.Inner (s.takeNak id i) := by
  unfold State.takeNak
  repeat' (first | with_reducible assumption | with_reducible apply State.Inner.nakTransfer | dsimp only | split)

theorem State.Inner.takeGood {s₀ s : State} (h : s₀.Inner s) (f : StationFrame) : s₀.Inner (s.takeGood f) := by
  unfold State.takeGood
  repeat' (first | with_reducible assumption | with_reducible apply State.Inner.goodFrame | with_reducible apply State.Inner.takeBeacon | with_reducible apply State.Inner.takePull | with_reducible apply State.Inner.takeAccept | with_reducible apply State.Inner.takeRefuse | with_reducible apply State.Inner.takeAck | with_reducible apply State.Inner.takeNak | dsimp only | split)

theorem State.Inner.judgeStation {s₀ s : State} (h : s₀.Inner s) (f : StationFrame) : s₀.Inner (s.judgeStation f) := by
  unfold State.judgeStation
  repeat' (first | with_reducible assumption | with_reducible apply State.Inner.badFrame | with_reducible apply State.Inner.takeGood | dsimp only | split)

theorem State.Inner.receiveFrame {s₀ s : State} (h : s₀.Inner s) (frame : List Byte) : s₀.Inner (s.receiveFrame frame) := by
  unfold State.receiveFrame
  repeat' (first | with_reducible assumption | with_reducible apply State.Inner.badFrame | with_reducible apply State.Inner.judgeStation | dsimp only | split)

theorem State.Inner.receive {s₀ s : State} (h : s₀.Inner s) (f : StationFrame) : s₀.Inner (s.receive f) := by
  unfold State.receive
  repeat' (first | with_reducible assumption | with_reducible apply State.Inner.judgeStation | dsimp only | split)

theorem State.Inner.send {s₀ s : State} (h : s₀.Inner s) (f : RelayFrame) : s₀.Inner (s.send f) := by
  unfold State.send
  repeat' (first | with_reducible assumption | with_reducible apply State.Inner.setTet)

theorem State.Inner.portFree {s₀ s : State} (h : s₀.Inner s) : s₀.Inner s.portFree := by
  unfold State.portFree
  repeat' (first | with_reducible assumption | with_reducible apply State.Inner.mapTransfer | with_reducible apply State.Inner.send | with_reducible apply State.Inner.setTet | dsimp only | split)

/-! ### Recalls.lean -/

theorem State.Inner.serveJob {s₀ s : State} (h : s₀.Inner s) (n : Nat) : s₀.Inner (s.serveJob n) := by
  unfold State.serveJob
  repeat' (first | with_reducible assumption | with_reducible apply State.Inner.dropJobs | with_reducible apply State.Inner.setDev | with_reducible apply State.Inner.raise | dsimp only | split)

theorem State.Inner.unqueueRecall {s₀ s : State} (h : s₀.Inner s) (sl : Slot) (r : Recall) : s₀.Inner (s.unqueueRecall sl r) := by
  unfold State.unqueueRecall
  exact h.setSlot _ _ fun x y hy => x y (List.mem_filter.mp hy).1

theorem State.Inner.reinstate {s₀ s : State} (h : s₀.Inner s) (i n : Nat) (f : ShotFields) (hi : s.shot i = none) :
    s₀.Inner (s.reinstate i n f) := by
  unfold State.reinstate
  refine State.Inner.setTet (h.putSome i _ hi rfl ?_) _
  intro sh e hr
  cases e; cases hr

theorem State.Inner.reserveRecall {s₀ s t : State} (h : s₀.Inner s) {sl : Slot} {r : Recall} {i : Nat} {sh : Shot}
    (hk : s.Sound → r.kind ≠ .thumb) (hs : s.shot i = some sh) (ho : sh.obj r.kind = none) (hr : sh.state ≠ .ring)
    (ht : s.reserveRecall sl r i = some t) : s₀.Inner t := by
  unfold State.reserveRecall at ht
  obtain ⟨s1, e, rfl⟩ := Option.map_eq_some_iff.mp ht
  have h1 : s₀.Inner s1 := h.reserve hk hs ho (fun _ _ => hr) e
  refine State.Inner.lookIf (s := s1.setSlot sl _) ?_ _
  refine ⟨h1.fixed, fun x => ?_⟩
  have hk' := hk (h.sound x)
  exact (h1.setSlot sl _ (by exact fun y => y.setHead hk')).sound x

theorem State.Inner.serveRecall {s₀ s : State} (h : s₀.Inner s) (sl : Slot) (r : Recall) (i : Nat) (sh : Shot) (o : Obj) : s₀.Inner (s.serveRecall sl r i sh o) := by
  unfold State.serveRecall
  repeat' (first | with_reducible assumption | with_reducible apply State.Inner.recallGone | with_reducible apply State.Inner.itemsReady | with_reducible apply State.Inner.unqueueRecall | with_reducible apply State.Inner.raise | with_reducible apply State.Inner.place | dsimp only | split)

theorem State.committed_shot {s : State} {n i : Nat} {sh : Shot} (h : s.committed n = some (i, sh)) :
    s.shot i = some sh ∧ sh.state ≠ .ring := by
  unfold State.committed at h
  split at h
  · cases h
  · rename_i j hj
    obtain ⟨sh', e, e'⟩ := Option.map_eq_some_iff.mp h
    cases e'
    refine ⟨e, ?_⟩
    obtain ⟨hlt, hp⟩ := List.findIdx?_eq_some_iff_getElem.mp hj
    have hg : s.sbm.shots[i] = some sh := by
      have := Sbm.shot_get (b := s.sbm) e
      rw [List.getElem?_eq_getElem hlt] at this
      exact Option.some.inj this
    rw [hg] at hp
    have := hp.1
    simp only [isCommitted, Option.any_some, Bool.and_eq_true, bne_iff_ne, ne_eq] at this
    exact this.1

theorem Sbm.freeEntry_shot {b : Sbm} {i : Nat} (h : b.freeEntry = some i) : b.shot i = none ∧ i < b.shots.length := by
  obtain ⟨hlt, hp⟩ := List.findIdx?_eq_some_iff_getElem.mp h
  refine ⟨?_, hlt⟩
  unfold Sbm.shot
  rw [List.getElem?_eq_getElem hlt]
  simpa using hp.1

theorem State.shot_reinstate (s : State) (i n : Nat) (f : ShotFields) (hi : i < s.sbm.shots.length) :
    (s.reinstate i n f).shot i = some (reinstatedShot n f) := by
  simp [State.reinstate, State.shot, Sbm.shot_put, hi]

theorem State.Inner.askOnce {s₀ s : State} (h : s₀.Inner s) (sl : Slot) (r : Recall) (hr : r ∈ (s.slot sl).recalls) :
    s₀.Inner (s.askOnce sl r).1 := by
  have hk : s.Sound → r.kind ≠ .thumb := fun x => by
    cases sl
    · exact x.partitioned.recallsA r hr
    · exact x.partitioned.recallsB r hr
  unfold State.askOnce
  split
  · rename_i i sh hc
    split
    · exact h.serveRecall _ _ _ _ _
    · rename_i ho
      cases e : s.reserveRecall sl r i with
      | none => exact h
      | some t => exact h.reserveRecall hk (State.committed_shot hc).1 ho (State.committed_shot hc).2 e
  · split
    · exact h
    · rename_i i hf
      split
      · cases e : (s.reinstate i r.shot r.fields).reserveRecall sl r i with
        | none => exact h
        | some t =>
          have hf' := Sbm.freeEntry_shot hf
          refine (h.reinstate i r.shot r.fields hf'.1).reserveRecall ?_ (State.shot_reinstate s i _ _ hf'.2) ?_ ?_ e
          · intro x
            cases sl
            · exact x.partitioned.recallsA r hr
            · exact x.partitioned.recallsB r hr
          · cases r.kind <;> rfl
          · simp [reinstatedShot]
      · exact h

theorem State.Inner.askHeads {s₀ s : State} (h : s₀.Inner s) (sl : Slot) (k : Nat) : s₀.Inner (s.askHeads sl k) := by
  induction k generalizing s with
  | zero => exact h
  | succ k ih =>
    unfold State.askHeads
    split
    · exact h
    · rename_i r rs e
      dsimp only
      split
      · have h1 := h.askOnce sl r (by rw [e]; exact List.mem_cons_self ..)
        split
        · exact ih h1
        · exact h1
      · exact h

theorem State.Inner.askHead {s₀ s : State} (h : s₀.Inner s) (sl : Slot) : s₀.Inner (s.askHead sl) := by
  unfold State.askHead
  repeat' (first | with_reducible assumption | with_reducible apply State.Inner.askHeads | dsimp only | split)

theorem State.Inner.recallServe {s₀ s : State} (h : s₀.Inner s) (sl : Slot) : s₀.Inner (s.recallServe sl) := by
  unfold State.recallServe
  dsimp only
  split
  · exact h.setSlot _ _ fun x => x.beginRead
  · exact h

theorem State.Inner.recallAsk {s₀ s : State} (h : s₀.Inner s) (sl : Slot) : s₀.Inner (s.recallAsk sl) := by
  unfold State.recallAsk
  repeat' (first | with_reducible assumption | with_reducible apply State.Inner.askHead | with_reducible apply State.Inner.recallServe)

theorem State.Inner.readEnds {s₀ s : State} (h : s₀.Inner s) (sl : Slot) : s₀.Inner (s.readEnds sl) := by
  unfold State.readEnds
  have h1 : s₀.Inner ((s.setSlot sl { s.slot sl with readMark := false }).askHead sl) :=
    State.Inner.askHead (h.setSlot sl _ (by exact fun x => x)) sl
  dsimp only
  split
  · exact h1.setSlot _ _ (by exact fun x => x.beginRead)
  · split
    · exact h1.setSlot _ _ (by exact fun x => x)
    · exact h1.tryHead _

theorem State.Inner.completeRecalled {s₀ s : State} (h : s₀.Inner s) (i n : Nat) (k : Pict) (host : Bool) : s₀.Inner (s.completeRecalled i n k host) := by
  unfold State.completeRecalled
  repeat' (first | with_reducible assumption | with_reducible apply State.Inner.jobsReady | with_reducible apply State.Inner.itemsReady | with_reducible apply State.Inner.serveJob | with_reducible apply State.Inner.notify | with_reducible apply State.Inner.mapObj | with_reducible apply State.Inner.place | with_reducible apply State.Inner.releaseHold | exact fun _ => rfl | dsimp only | split)

theorem State.Inner.completeRecall {s₀ s : State} (h : s₀.Inner s) (sl : Slot) (r : Recall) (i : Nat) : s₀.Inner (s.completeRecall sl r i) := by
  unfold State.completeRecall
  repeat' (first | with_reducible assumption | with_reducible apply State.Inner.recallGone | with_reducible apply State.Inner.unqueueRecall | with_reducible apply State.Inner.readEnds | with_reducible apply State.Inner.completeRecalled | with_reducible apply State.Inner.raise)

theorem State.Inner.abandonRecalled {s₀ s : State} (h : s₀.Inner s) (r : Recall) : s₀.Inner (s.abandonRecalled r) := by
  unfold State.abandonRecalled
  repeat' (first | with_reducible assumption | with_reducible apply State.Inner.removeObj | dsimp only | split)

theorem State.Inner.failRecall {s₀ s : State} (h : s₀.Inner s) (sl : Slot) (e : RecallReason) (r : Recall) : s₀.Inner (s.failRecall sl e r) := by
  unfold State.failRecall
  repeat' (first | with_reducible assumption | with_reducible apply State.Inner.dropOrphanJobs | with_reducible apply State.Inner.relookItems | with_reducible apply State.Inner.failItem | with_reducible apply State.Inner.unqueueRecall | with_reducible apply State.Inner.recallAsk | with_reducible apply State.Inner.abandonRecalled | with_reducible apply State.Inner.notify | with_reducible apply State.Inner.raise | with_reducible apply State.Inner.checkRetireShot | with_reducible refine State.Inner.foldl _ _ ?_ (fun t x h => ?_) | dsimp only | split)

theorem State.Inner.failRecalls {s₀ s : State} (h : s₀.Inner s) (sl : Slot) (e : RecallReason) : s₀.Inner (s.failRecalls sl e) := by
  unfold State.failRecalls
  repeat' (first | with_reducible assumption | with_reducible apply State.Inner.failRecall | with_reducible refine State.Inner.foldl _ _ ?_ (fun t x h => ?_))

theorem Obj.addExtent_extents (run : Window) (data : List Byte) (o : Obj) : (o.addExtent run data).extents = o.extents := by
  unfold Obj.addExtent; split <;> rfl

/-- The head recall replaced by one of the same kind. -/
theorem State.Inner.setHead {s₀ s : State} (h : s₀.Inner s) (sl : Slot) {r : Recall} (hk : s₀.Sound → r.kind ≠ .thumb) :
    s₀.Inner (s.setSlot sl ((s.slot sl).setHead r)) :=
  h.next rfl fun x₀ x => (State.Inner.setSlot (State.Inner.refl s) sl _ fun y => y.setHead (hk x₀)).sound x

theorem State.Inner.extentArrived {s₀ s : State} (h : s₀.Inner s) (sl : Slot) (r : Recall) (i : Nat) (data : List Byte)
    (hk : s₀.Sound → r.kind ≠ .thumb) : s₀.Inner (s.extentArrived sl r i data) := by
  unfold State.extentArrived
  extract_lets s1 r1 s2
  have h2 : s₀.Inner s2 := State.Inner.setHead (h.mapObj _ _ _ (Obj.addExtent_extents _ data)) sl hk
  split
  · exact h2
  · exact h2.completeRecall _ _ _

theorem State.Inner.extentRead {s₀ s : State} (h : s₀.Inner s) (sl : Slot) (success : Bool) (data : List Byte) :
    s₀.Inner (s.extentRead sl success data) := by
  unfold State.extentRead
  dsimp only
  split
  · exact h
  · rename_i r rs e
    have hk : s₀.Sound → r.kind ≠ .thumb := fun x₀ => by
      have x := h.sound x₀
      have hr : r ∈ (s.slot sl).recalls := by rw [e]; exact List.mem_cons_self ..
      cases sl
      · exact x.partitioned.recallsA r hr
      · exact x.partitioned.recallsB r hr
    split
    · exact h
    · split
      · exact h
      · split
        · exact (h.failRecall _ _ _).readEnds _
        · split
          · exact h.extentArrived _ _ _ _ hk
          · split
            · exact h.setHead sl (by exact hk)
            · exact (h.failRecall _ _ _).readEnds _

theorem State.Inner.slotFree {s₀ s : State} (h : s₀.Inner s) (sl : Slot) : s₀.Inner (s.slotFree sl) := by
  unfold State.slotFree
  repeat' (first | with_reducible assumption | with_reducible apply State.Inner.tryHead | with_reducible apply State.Inner.recallServe)

theorem State.Inner.indexJob {s₀ s : State} (h : s₀.Inner s) (sl : Slot) (j : WriteJob) : s₀.Inner (s.indexJob sl j) := by
  unfold State.indexJob
  split
  · exact h.setSbm _ rfl rfl
  · exact h

theorem CardSlot.jobOver_recalls (c : CardSlot) : c.jobOver.recalls = c.recalls := rfl

theorem State.Inner.completeJob {s₀ s : State} (h : s₀.Inner s) (sl : Slot) (j : WriteJob) : s₀.Inner (s.completeJob sl j) := by
  unfold State.completeJob
  extract_lets s1 s2
  have h1 : s₀.Inner s1 := State.Inner.raise (State.Inner.indexJob (h.setCardStatus _ _ _ _) _ _) _ _
  have h2 : s₀.Inner s2 := h1.setSlot _ _ fun x => x.of_eq ((CardSlot.atWindowEnd_recalls _).trans (CardSlot.jobOver_recalls _))
  exact State.Inner.slotFree (State.Inner.endCardJob h2 _ _ _ _) _

theorem State.Inner.stopJob {s₀ s : State} (h : s₀.Inner s) (sl : Slot) (j : WriteJob) : s₀.Inner (s.stopJob sl j) := by
  unfold State.stopJob
  repeat' (first | with_reducible assumption | with_reducible apply State.Inner.endCardJob | with_reducible apply State.Inner.slotFree | with_reducible apply State.Inner.setSlot | with_reducible apply State.Inner.raise | exact fun x => x)

theorem State.Inner.boundary {s₀ s : State} (h : s₀.Inner s) (sl : Slot) (j : WriteJob) : s₀.Inner (s.boundary sl j) := by
  unfold State.boundary
  split
  · exact h.stopJob _ _
  · split
    · split
      · refine h.setSlot _ _ fun x => ?_
        unfold CardSlot.suspend
        exact CardSlot.recallsOk.beginRead (CardSlot.recallsOk.of_eq x (by exact rfl))
      · exact h
    · exact h.completeJob _ _

theorem State.Inner.moveActive {s₀ s : State} (h : s₀.Inner s) (left : CardStatus) (j : WriteJob) : s₀.Inner (s.moveActive left j) := by
  unfold State.moveActive
  repeat' (first | with_reducible assumption | with_reducible apply State.Inner.moveJob | with_reducible apply State.Inner.endCardJob | dsimp only | split)

theorem State.Inner.endJobs {s₀ s : State} (h : s₀.Inner s) (sl : Slot) (left : CardStatus) (active queued : List WriteJob) : s₀.Inner (s.endJobs sl left active queued) := by
  unfold State.endJobs
  repeat' (first | with_reducible assumption | with_reducible apply State.Inner.moveJob | with_reducible apply State.Inner.endCardJob | with_reducible apply State.Inner.moveActive | with_reducible refine State.Inner.foldl _ _ ?_ (fun t x h => ?_) | dsimp only | split)

theorem State.Inner.failSlot {s₀ s : State} (h : s₀.Inner s) (sl : Slot) (j : WriteJob) : s₀.Inner (s.failSlot sl j) := by
  unfold State.failSlot
  repeat' (first | with_reducible assumption | with_reducible apply State.Inner.sweep | with_reducible apply State.Inner.failRecalls | with_reducible apply State.Inner.endJobs | with_reducible apply State.Inner.setSlot | with_reducible apply State.Inner.raise | exact fun x => x)

theorem State.Inner.extentWritten {s₀ s : State} (h : s₀.Inner s) (sl : Slot) (success : Bool) : s₀.Inner (s.extentWritten sl success) := by
  unfold State.extentWritten
  repeat' (first | with_reducible assumption | with_reducible apply State.Inner.boundary | with_reducible apply State.Inner.failSlot | with_reducible apply State.Inner.setSlot | exact fun x => x | dsimp only | split)

theorem State.Inner.reportSlot {s₀ s : State} (h : s₀.Inner s) (sl : Slot) (st : SlotState) (mount : Nat) (capacity : Option Nat) (reason : Option CardReason) : s₀.Inner (s.reportSlot sl st mount capacity reason) := by
  unfold State.reportSlot
  repeat' (first | with_reducible assumption | with_reducible apply State.Inner.raise)

theorem State.Inner.insertCard {s₀ s : State} (h : s₀.Inner s) (sl : Slot) : s₀.Inner (s.insertCard sl) := by
  unfold State.insertCard
  dsimp only
  split
  · refine State.Inner.reportSlot (State.Inner.setSlot (h.setCrd _ (by exact ⟨rfl, rfl⟩)) _ _ fun _ r hr => ?_) _ _ _ _ _
    cases hr
  · exact h

theorem State.Inner.mountCard {s₀ s : State} (h : s₀.Inner s) (sl : Slot) (capacity : Nat) (writeProtected : Bool) : s₀.Inner (s.mountCard sl capacity writeProtected) := by
  unfold State.mountCard
  repeat' (first | with_reducible assumption | with_reducible apply State.Inner.sweep | with_reducible apply State.Inner.reportSlot | with_reducible apply State.Inner.setSlot | exact fun x => x | dsimp only | split)

theorem State.Inner.failMount {s₀ s : State} (h : s₀.Inner s) (sl : Slot) : s₀.Inner (s.failMount sl) := by
  unfold State.failMount
  repeat' (first | with_reducible assumption | with_reducible apply State.Inner.reportSlot | with_reducible apply State.Inner.setSlot | exact fun x => x | dsimp only | split)

theorem State.Inner.reportPartial {s₀ s : State} (h : s₀.Inner s) (sl : Slot) (c : CardSlot) (j : WriteJob) : s₀.Inner (s.reportPartial sl c j) := by
  unfold State.reportPartial
  repeat' (first | with_reducible assumption | with_reducible apply State.Inner.raise)

theorem State.Inner.removeCard {s₀ s : State} (h : s₀.Inner s) (sl : Slot) : s₀.Inner (s.removeCard sl) := by
  unfold State.removeCard
  dsimp only
  split
  · exact h
  · have h1 := (h.setSlot sl { CardSlot.absent with recalls := (s.slot sl).recalls } fun x => x).reportSlot sl .absent
      ((s.slot sl).mount.getD 0) none none
    exact (((State.Inner.foldl _ _ h1 fun t x ht => ht.reportPartial _ _ _).endJobs _ _ _ _).failRecalls _ _).sweep

theorem State.Inner.grant {s₀ s : State} (h : s₀.Inner s) (sl : Slot) (w : Window) : s₀.Inner (s.grant sl w) := by
  unfold State.grant
  repeat' (first | with_reducible assumption | with_reducible apply State.Inner.tryHead | with_reducible apply State.Inner.sweep | with_reducible apply State.Inner.setSlot | exact fun x => x | dsimp only | split)

theorem State.Inner.resumeSlot {s₀ s : State} (h : s₀.Inner s) (sl : Slot) : s₀.Inner (s.resumeSlot sl) := by
  unfold State.resumeSlot
  repeat' (first | with_reducible assumption | with_reducible apply State.Inner.tryHead | with_reducible apply State.Inner.recallAsk)

theorem State.Inner.removeJob {s₀ s : State} (h : s₀.Inner s) (sl : Slot) (j : WriteJob) : s₀.Inner (s.removeJob sl j) := by
  unfold State.removeJob
  repeat' (first | with_reducible assumption | with_reducible apply State.Inner.endCardJob | with_reducible apply State.Inner.setSlot | exact fun x => x)

theorem State.Inner.stopActive {s₀ s : State} (h : s₀.Inner s) (sl : Slot) (j : WriteJob) : s₀.Inner (s.stopActive sl j) := by
  unfold State.stopActive
  repeat' (first | with_reducible assumption | with_reducible apply State.Inner.stopJob | with_reducible apply State.Inner.setSlot | exact fun x => x | dsimp only | split)

theorem State.Inner.deleteRecall {s₀ s : State} (h : s₀.Inner s) (sl : Slot) (r : Recall) : s₀.Inner (s.deleteRecall sl r) := by
  unfold State.deleteRecall
  split
  · refine h.setSlot _ _ fun x y hy => ?_
    obtain ⟨z, hz, rfl⟩ := List.mem_map.mp hy
    have := x z hz
    split <;> exact this
  · exact h.failRecall _ _ _

theorem State.Inner.deleteOnSlot {s₀ s : State} (h : s₀.Inner s) (n : Nat) (sl : Slot) : s₀.Inner (s.deleteOnSlot n sl) := by
  unfold State.deleteOnSlot
  repeat' (first | with_reducible assumption | with_reducible apply State.Inner.removeJob | with_reducible apply State.Inner.stopActive | with_reducible apply State.Inner.deleteRecall | with_reducible refine State.Inner.foldl _ _ ?_ (fun t x h => ?_))

end Sys2Proof.Machine
end

