-- ==== Sys2Proof/Laws/Frames.lean ====
section
/-! SUPPORT. What completions, focus, capture, the end of a step and the Supervisor do within a step is only what `Inner` says, function by function. -/

namespace Sys2Proof.Machine
open Sys2Proof

/-! ### Passes.lean -/

theorem State.Inner.completionJobs {s₀ s : State} (h : s₀.Inner s) (i : Nat) : s₀.Inner (s.completionJobs i) := by
  unfold State.completionJobs
  repeat' (first | with_reducible assumption | with_reducible apply State.Inner.requestJob | dsimp only | split)

theorem State.Inner.completeRaw {s₀ s : State} (h : s₀.Inner s) (i : Nat) : s₀.Inner (s.completeRaw i) := by
  unfold State.completeRaw
  repeat' (first | with_reducible assumption | with_reducible apply State.Inner.jobsReady | with_reducible apply State.Inner.cardJobs | with_reducible apply State.Inner.evaluateRules | with_reducible apply State.Inner.completionJobs | with_reducible apply State.Inner.notify | with_reducible apply State.Inner.mapObj | with_reducible apply State.Inner.setHolds | exact fun _ => rfl)

theorem State.Inner.reportPass {s₀ s : State} (h : s₀.Inner s) (p : Pass) (k : Pict) (scale : Option Scale) (kept : Option Bool) : s₀.Inner (s.reportPass p k scale kept) := by
  unfold State.reportPass
  repeat' (first | with_reducible assumption | with_reducible apply State.Inner.setDev | with_reducible apply State.Inner.raise | dsimp only | split)

theorem State.Inner.endPass {s₀ s : State} (h : s₀.Inner s) (p : Pass) (k : Pict) : s₀.Inner (s.endPass p k) := by
  unfold State.endPass
  repeat' (first | with_reducible assumption | with_reducible apply State.Inner.dropJobs | with_reducible apply State.Inner.setEngine | with_reducible apply State.Inner.engineLook | with_reducible apply State.Inner.notify)

theorem State.Inner.completeThumb {s₀ s : State} (h : s₀.Inner s) (p : Pass) : s₀.Inner (s.completeThumb p) := by
  unfold State.completeThumb
  repeat' (first | with_reducible assumption | with_reducible apply State.Inner.itemsReady | with_reducible apply State.Inner.reportPass | with_reducible apply State.Inner.endPass | with_reducible apply State.Inner.mapShot | exact ⟨fun _ => rfl, fun _ => rfl, fun _ x => ⟨x, id, id⟩⟩)

theorem State.Inner.completeRendition {s₀ s : State} (h : s₀.Inner s) (i n : Nat) : s₀.Inner (s.completeRendition i n) := by
  unfold State.completeRendition
  repeat' (first | with_reducible assumption | with_reducible apply State.Inner.cardJobs | with_reducible apply State.Inner.itemsReady | with_reducible apply State.Inner.mapObj | with_reducible apply State.Inner.releaseHold | exact fun _ => rfl | dsimp only | split)

theorem State.Inner.completeRender {s₀ s : State} (h : s₀.Inner s) (p : Pass) : s₀.Inner (s.completeRender p) := by
  unfold State.completeRender
  repeat' (first | with_reducible assumption | with_reducible apply State.Inner.reportPass | with_reducible apply State.Inner.endPass | with_reducible apply State.Inner.completeRendition)

theorem State.Inner.abandonRendition {s₀ s : State} (h : s₀.Inner s) (p : Pass) : s₀.Inner (s.abandonRendition p) := by
  unfold State.abandonRendition
  repeat' (first | with_reducible assumption | with_reducible apply State.Inner.removeObj)

theorem State.Inner.returnJob {s₀ s : State} (h : s₀.Inner s) (n : Nat) (k : Pict) : s₀.Inner (s.returnJob n k) := by
  unfold State.returnJob
  repeat' (first | with_reducible assumption | with_reducible apply State.Inner.setDev | dsimp only | split)

theorem State.Inner.abandonPass {s₀ s : State} (h : s₀.Inner s) : s₀.Inner s.abandonPass := by
  unfold State.abandonPass
  repeat' (first | with_reducible assumption | with_reducible apply State.Inner.relookItems | with_reducible apply State.Inner.abandonRendition | with_reducible apply State.Inner.returnJob | dsimp only | split)

theorem State.Inner.deletePass {s₀ s : State} (h : s₀.Inner s) (n : Nat) : s₀.Inner (s.deletePass n) := by
  unfold State.deletePass
  repeat' (first | with_reducible assumption | with_reducible apply State.Inner.abandonRendition | with_reducible apply State.Inner.setDev | dsimp only | split)

theorem State.Inner.deleteJobs {s₀ s : State} (h : s₀.Inner s) (n : Nat) : s₀.Inner (s.deleteJobs n) := by
  unfold State.deleteJobs
  repeat' (first | with_reducible assumption | with_reducible apply State.Inner.dropJobs | with_reducible apply State.Inner.engineLook | with_reducible apply State.Inner.deletePass | with_reducible apply State.Inner.notify | dsimp only | split)

theorem State.Inner.deleteItems {s₀ s : State} (h : s₀.Inner s) (n : Nat) : s₀.Inner (s.deleteItems n) := by
  unfold State.deleteItems
  repeat' (first | with_reducible assumption | with_reducible apply State.Inner.removeItem | with_reducible refine State.Inner.foldl _ _ ?_ (fun t x h => ?_))

theorem State.Inner.releaseKept {s₀ s : State} (h : s₀.Inner s) (i : Nat) (k : Pict) : s₀.Inner (s.releaseKept i k) := by
  unfold State.releaseKept
  repeat' (first | with_reducible assumption | with_reducible apply State.Inner.setHolds)

theorem State.Inner.deleteShot {s₀ s : State} (h : s₀.Inner s) (i n : Nat) : s₀.Inner (s.deleteShot i n) := by
  unfold State.deleteShot
  repeat' (first | with_reducible assumption | with_reducible apply State.Inner.deleteOnSlot | with_reducible apply State.Inner.deleteJobs | with_reducible apply State.Inner.deleteItems | with_reducible apply State.Inner.releaseKept | with_reducible apply State.Inner.mapShot | with_reducible apply State.Inner.checkRetireShot | exact ⟨fun _ => rfl, fun _ => rfl, fun _ x => ⟨x, id, id⟩⟩)

theorem State.Inner.levelToDev {s₀ s : State} (h : s₀.Inner s) : s₀.Inner s.levelToDev := by
  unfold State.levelToDev
  repeat' (first | with_reducible assumption | with_reducible apply State.Inner.setEngine | with_reducible apply State.Inner.engineLook | with_reducible apply State.Inner.abandonPass | with_reducible apply State.Inner.notify | dsimp only | split)

theorem State.Inner.levelToCrd {s₀ s : State} (h : s₀.Inner s) (before : PowerLevel) : s₀.Inner (s.levelToCrd before) := by
  unfold State.levelToCrd
  repeat' (first | with_reducible assumption | with_reducible apply State.Inner.resumeSlot | dsimp only | split)

theorem State.Inner.levelToTet {s₀ s : State} (h : s₀.Inner s) (before : PowerLevel) : s₀.Inner (s.levelToTet before) := by
  unfold State.levelToTet
  repeat' (first | with_reducible assumption | with_reducible apply State.Inner.returnTransfer | with_reducible apply State.Inner.linkAsk | with_reducible apply State.Inner.notify | dsimp only | split)

theorem State.Inner.setLevel {s₀ s : State} (h : s₀.Inner s) (new : PowerLevel) : s₀.Inner (s.setLevel new) := by
  unfold State.setLevel
  repeat' (first | with_reducible assumption | with_reducible apply State.Inner.levelToDev | with_reducible apply State.Inner.levelToCrd | with_reducible apply State.Inner.levelToTet | with_reducible apply State.Inner.setSup | with_reducible apply State.Inner.notify | with_reducible apply State.Inner.raise | exact ⟨rfl, rfl, rfl⟩ | dsimp only | split)

/-! ### Focus.lean -/

theorem State.Inner.refreshFocus {s₀ s : State} (h : s₀.Inner s) : s₀.Inner s.refreshFocus := by
  unfold State.refreshFocus
  repeat' (first | with_reducible assumption | with_reducible apply State.Inner.setFoc | dsimp only | split)

theorem State.Inner.sendMove {s₀ s : State} (h : s₀.Inner s) (target : Nat) (kind : MoveKind) : s₀.Inner (s.sendMove target kind) := by
  unfold State.sendMove
  repeat' (first | with_reducible assumption | with_reducible apply State.Inner.setFoc)

theorem State.Inner.offer {s₀ s : State} (h : s₀.Inner s) (target : Nat) (kind : MoveKind) : s₀.Inner (s.offer target kind) := by
  unfold State.offer
  repeat' (first | with_reducible assumption | with_reducible apply State.Inner.sendMove | with_reducible apply State.Inner.setFoc | dsimp only | split)

theorem State.Inner.singleChosen {s₀ s : State} (h : s₀.Inner s) (l : Lens) (c : Selected) (focused : Bool) : s₀.Inner (s.singleChosen l c focused) := by
  unfold State.singleChosen
  repeat' (first | with_reducible assumption | with_reducible apply State.Inner.offer | with_reducible apply State.Inner.setFoc | with_reducible apply State.Inner.raise | dsimp only | split)

theorem State.Inner.sweepStep {s₀ s : State} (h : s₀.Inner s) (l : Lens) : s₀.Inner (s.sweepStep l) := by
  unfold State.sweepStep
  repeat' (first | with_reducible assumption | with_reducible apply State.Inner.sweep | with_reducible apply State.Inner.offer | with_reducible apply State.Inner.setFoc | with_reducible apply State.Inner.raise | dsimp only | split)

theorem State.Inner.singleOutcome {s₀ s : State} (h : s₀.Inner s) (l : Lens) (c : Option (Selected × Bool)) : s₀.Inner (s.singleOutcome l c) := by
  unfold State.singleOutcome
  repeat' (first | with_reducible assumption | with_reducible apply State.Inner.singleChosen | with_reducible apply State.Inner.sweepStep | with_reducible apply State.Inner.setFoc | dsimp only | split)

theorem State.Inner.continuousChosen {s₀ s : State} (h : s₀.Inner s) (l : Lens) (c : Selected) (focused : Bool) : s₀.Inner (s.continuousChosen l c focused) := by
  unfold State.continuousChosen
  repeat' (first | with_reducible assumption | with_reducible apply State.Inner.offer | with_reducible apply State.Inner.setFoc | dsimp only | split)

theorem State.Inner.continuousOutcome {s₀ s : State} (h : s₀.Inner s) (l : Lens) (c : Option (Selected × Bool)) : s₀.Inner (s.continuousOutcome l c) := by
  unfold State.continuousOutcome
  repeat' (first | with_reducible assumption | with_reducible apply State.Inner.continuousChosen | with_reducible apply State.Inner.setFoc | dsimp only | split)

theorem State.Inner.handOutcome {s₀ s : State} (h : s₀.Inner s) (c : Option (Selected × Bool)) : s₀.Inner (s.handOutcome c) := by
  unfold State.handOutcome
  repeat' (first | with_reducible assumption | with_reducible apply State.Inner.singleOutcome | with_reducible apply State.Inner.continuousOutcome | dsimp only | split)

theorem State.Inner.choose {s₀ s : State} (h : s₀.Inner s) : s₀.Inner s.choose := by
  unfold State.choose
  repeat' (first | with_reducible assumption | with_reducible apply State.Inner.handOutcome | with_reducible apply State.Inner.setFoc | dsimp only | split)

theorem State.Inner.arrival {s₀ s : State} (h : s₀.Inner s) (lines : List PupilLines) : s₀.Inner (s.arrival lines) := by
  unfold State.arrival
  repeat' (first | with_reducible assumption | with_reducible apply State.Inner.choose | with_reducible apply State.Inner.setFoc)

theorem State.Inner.unmeasure {s₀ s : State} (h : s₀.Inner s) : s₀.Inner s.unmeasure := by
  unfold State.unmeasure
  repeat' (first | with_reducible assumption | with_reducible apply State.Inner.setFoc)

theorem State.Inner.lensMoves {s₀ s : State} (h : s₀.Inner s) : s₀.Inner s.lensMoves := by
  unfold State.lensMoves
  repeat' (first | with_reducible assumption | with_reducible apply State.Inner.setFoc | dsimp only | split)

theorem State.Inner.lensSettles {s₀ s : State} (h : s₀.Inner s) (position : Nat) : s₀.Inner (s.lensSettles position) := by
  unfold State.lensSettles
  repeat' (first | with_reducible assumption | with_reducible apply State.Inner.offer | with_reducible apply State.Inner.setFoc | dsimp only | split)

theorem State.Inner.lensTimeout {s₀ s : State} (h : s₀.Inner s) : s₀.Inner s.lensTimeout := by
  unfold State.lensTimeout
  repeat' (first | with_reducible assumption | with_reducible apply State.Inner.setFoc | with_reducible apply State.Inner.raise | dsimp only | split)

theorem State.Inner.loseSubject {s₀ s : State} (h : s₀.Inner s) : s₀.Inner s.loseSubject := by
  unfold State.loseSubject
  repeat' (first | with_reducible assumption | with_reducible apply State.Inner.setFoc | with_reducible apply State.Inner.raise | dsimp only | split)

theorem State.Inner.gateRefresh {s₀ s : State} (h : s₀.Inner s) : s₀.Inner s.gateRefresh := by
  unfold State.gateRefresh
  repeat' (first | with_reducible assumption | with_reducible apply State.Inner.setFoc | with_reducible apply State.Inner.notify | dsimp only | split)

theorem State.Inner.afChanged {s₀ s : State} (h : s₀.Inner s) (old : AfSettings) : s₀.Inner (s.afChanged old) := by
  unfold State.afChanged
  repeat' (first | with_reducible assumption | with_reducible apply State.Inner.setFoc | dsimp only | split)

theorem State.Inner.fitLens {s₀ s : State} (h : s₀.Inner s) (lens : Option Lens) (position : Option Nat) : s₀.Inner (s.fitLens lens position) := by
  unfold State.fitLens
  repeat' (first | with_reducible assumption | with_reducible apply State.Inner.setFoc)

/-! ### Capture.lean -/

theorem State.Inner.reportBuffered {s₀ s : State} (h : s₀.Inner s) (i : Nat) (sh : Shot) : s₀.Inner (s.reportBuffered i sh) := by
  unfold State.reportBuffered
  repeat' (first | with_reducible assumption | with_reducible apply State.Inner.raise | dsimp only | split)

theorem State.Inner.powerUpSensor {s₀ s : State} (h : s₀.Inner s) : s₀.Inner s.powerUpSensor := by
  unfold State.powerUpSensor
  repeat' (first | with_reducible assumption | with_reducible apply State.Inner.setCap | dsimp only | split)

theorem State.Inner.sensorReady {s₀ s : State} (h : s₀.Inner s) : s₀.Inner s.sensorReady := by
  unfold State.sensorReady
  repeat' (first | with_reducible assumption | with_reducible apply State.Inner.setCap | with_reducible apply State.Inner.notify)

theorem State.Inner.powerDownSensor {s₀ s : State} (h : s₀.Inner s) : s₀.Inner s.powerDownSensor := by
  unfold State.powerDownSensor
  repeat' (first | with_reducible assumption | with_reducible apply State.Inner.unmeasure | with_reducible apply State.Inner.setCap | dsimp only | split)

theorem State.Inner.startSequence {s₀ s : State} (h : s₀.Inner s) (d : DriveState) : s₀.Inner (s.startSequence d) := by
  unfold State.startSequence
  repeat' (first | with_reducible assumption | with_reducible apply State.Inner.setCap | with_reducible apply State.Inner.notify)

theorem State.Inner.startShooting {s₀ s : State} (h : s₀.Inner s) (d : DriveState) : s₀.Inner (s.startShooting d) := by
  unfold State.startShooting
  repeat' (first | with_reducible assumption | with_reducible apply State.Inner.startSequence | with_reducible apply State.Inner.setCap)

theorem State.Inner.toIdleDrive {s₀ s : State} (h : s₀.Inner s) : s₀.Inner s.toIdleDrive := by
  unfold State.toIdleDrive
  repeat' (first | with_reducible assumption | with_reducible apply State.Inner.setCap)

theorem State.Inner.endStall {s₀ s : State} (h : s₀.Inner s) (f : Frame) (started : Bool) : s₀.Inner (s.endStall f started) := by
  unfold State.endStall
  repeat' (first | with_reducible assumption | with_reducible apply State.Inner.setCap | with_reducible apply State.Inner.raise | dsimp only | split)

theorem State.Inner.dropFrame {s₀ s : State} (h : s₀.Inner s) : s₀.Inner s.dropFrame := by
  unfold State.dropFrame
  repeat' (first | with_reducible assumption | with_reducible apply State.Inner.endStall | with_reducible apply State.Inner.setCap | with_reducible apply State.Inner.setFoc | dsimp only | split)

theorem State.Inner.stopBurst {s₀ s : State} (h : s₀.Inner s) : s₀.Inner s.stopBurst := by
  unfold State.stopBurst
  repeat' (first | with_reducible assumption | with_reducible apply State.Inner.dropFrame | with_reducible apply State.Inner.raise)

theorem State.ring_rendition {s : State} {i : Nat} {sh : Shot} (h : s.Sound) (hs : s.shot i = some sh) (hr : sh.state = .ring) :
    sh.rendition = none :=
  (h.partitioned.ring _ (List.mem_of_getElem? (Sbm.shot_get hs)) sh rfl hr).2

/-- An entry that names only a raw names nothing once that is removed. -/
theorem State.removeObj_extents (s : State) (i : Nat) (hr : ∀ sh, s.shot i = some sh → sh.rendition = none) :
    Shot.extents ((s.removeObj i .raw).shot i) = [] := by
  unfold State.removeObj
  split
  · rename_i ho
    cases e : s.shot i with
    | none => rfl
    | some sh =>
      have : sh.raw = none := by simpa [State.obj, e, Shot.obj] using ho
      simp [Shot.extents, extentsOf, this, hr sh e]
  · rename_i o ho
    cases e : s.shot i with
    | none => simp [State.obj, e] at ho
    | some sh =>
      have e' : (s.mapShot i fun sh => sh.setObj .raw none).sbm.shot i = some (sh.setObj .raw none) := by
        have := State.shot_mapShot s i i fun sh => sh.setObj .raw none
        have e2 : s.sbm.shot i = some sh := e
        simpa [State.shot, e2] using this
      simp only [State.shot, State.announceSpace_sbm, State.setSbm_sbm]
      unfold Sbm.shot at *
      dsimp only
      rw [e']
      simp [Shot.extents, extentsOf, Shot.setObj, hr sh e]

theorem State.Inner.freeRing {s₀ s : State} (h : s₀.Inner s) (i : Nat) : s₀.Inner (s.freeRing i) := by
  unfold State.freeRing
  split
  · rename_i hc
    have h1 := h.removeObj i .raw
    refine ⟨h1.fixed, fun x => (h1.putNone i (s.removeObj_extents i fun sh e => ?_)).sound x⟩
    refine State.ring_rendition (h.sound x) e ?_
    simpa [e] using hc
  · exact h

theorem State.Inner.discardRing {s₀ s : State} (h : s₀.Inner s) (i : Nat) : s₀.Inner (s.discardRing i) := by
  unfold State.discardRing
  split
  · exact h.freeRing _
  · exact h.releaseHold _ _ _

theorem State.Inner.discardWholeRing {s₀ s : State} (h : s₀.Inner s) : s₀.Inner s.discardWholeRing := by
  unfold State.discardWholeRing
  repeat' (first | with_reducible assumption | with_reducible apply State.Inner.discardRing | with_reducible apply State.Inner.setCap | with_reducible refine State.Inner.foldl _ _ ?_ (fun t x h => ?_))

theorem State.commitState_ne (s : State) (i : Nat) : s.commitState i ≠ .ring := by
  unfold State.commitState
  split
  · split
    · split <;> simp
    · simp
  · simp

theorem State.Inner.commitRing {s₀ s : State} (h : s₀.Inner s) (i : Nat) : s₀.Inner (s.commitRing i) := by
  unfold State.commitRing
  split
  · exact h
  · rename_i n _
    have h1 : s₀.Inner (((s.setSbm s.sbm.takeNumber).mapShot i fun sh =>
        { sh with state := s.commitState i, number := some n, look := some s.settings.lookSnapshot })) :=
      State.Inner.mapShot (h.setSbm _ (by exact rfl) (by exact rfl)) _ _
        (by exact ⟨fun _ => rfl, fun _ => rfl, fun _ x => absurd x (s.commitState_ne i)⟩)
    dsimp only
    split
    · exact h1.setCap _
    · split
      · exact (((h1.setCap _).raise _ _).completeRaw _).reportBuffered _ _
      · exact ((h1.setCap _).raise _ _).releaseHold _ _ _

theorem State.Inner.ringToBurst {s₀ s : State} (h : s₀.Inner s) : s₀.Inner s.ringToBurst := by
  unfold State.ringToBurst
  repeat' (first | with_reducible assumption | with_reducible apply State.Inner.commitRing | with_reducible apply State.Inner.setCap | with_reducible apply State.Inner.notify | with_reducible refine State.Inner.foldl _ _ ?_ (fun t x h => ?_))

theorem State.Inner.leaveIdle {s₀ s : State} (h : s₀.Inner s) : s₀.Inner s.leaveIdle := by
  unfold State.leaveIdle
  repeat' (first | with_reducible assumption | with_reducible apply State.Inner.startSequence | with_reducible apply State.Inner.startShooting | dsimp only | split)

theorem State.Inner.driveOnce {s₀ s : State} (h : s₀.Inner s) : s₀.Inner s.driveOnce := by
  unfold State.driveOnce
  repeat' (first | with_reducible assumption | with_reducible apply State.Inner.startSequence | with_reducible apply State.Inner.toIdleDrive | with_reducible apply State.Inner.dropFrame | with_reducible apply State.Inner.stopBurst | with_reducible apply State.Inner.discardWholeRing | with_reducible apply State.Inner.ringToBurst | with_reducible apply State.Inner.leaveIdle | dsimp only | split)

theorem State.Inner.driveReact {s₀ s : State} (h : s₀.Inner s) : s₀.Inner s.driveReact := by
  unfold State.driveReact
  repeat' (first | with_reducible assumption | with_reducible apply State.Inner.driveOnce | dsimp only | split)

theorem State.Inner.openEntry {s₀ s : State} (h : s₀.Inner s) (q : Sequence) (i : Nat) (sh : Shot) (ring : Bool)
    (hi : s.sbm.freeEntry = some i) (hr : sh.raw = none) (hd : sh.rendition = none) (hn : sh.state = .ring → sh.number = none) :
    s₀.Inner (s.openEntry q i sh ring) := by
  have hf := Sbm.freeEntry_shot hi
  have h1 : s₀.Inner (s.setSbm (s.sbm.put i (some sh))) :=
    h.putSome i sh hf.1 (by simp [Shot.extents, extentsOf, hr, hd]) fun sh' e hs => by cases e; exact ⟨hn hs, hd⟩
  unfold State.openEntry
  dsimp only
  cases e : (s.setSbm (s.sbm.put i (some sh))).reserve i .raw q.size .cap none ring (.sensor q.depth q.crop.width []) with
  | none => exact h1
  | some t =>
    refine h1.reserve (k := .raw) (sh := sh) (fun _ hk => by cases hk) ?_ hr (fun _ hk => by cases hk) e
    simp [State.shot, Sbm.shot_put, hf.2]

theorem State.Inner.expose {s₀ s : State} (h : s₀.Inner s) (q : Sequence) (i : Nat) : s₀.Inner (s.expose q i) := by
  unfold State.expose
  repeat' (first | with_reducible assumption | with_reducible apply State.Inner.setCap)

theorem State.Inner.afterStart {s₀ s : State} (h : s₀.Inner s) (q : Sequence) (n : Nat) (flash : Flash) : s₀.Inner (s.afterStart q n flash) := by
  unfold State.afterStart
  repeat' (first | with_reducible assumption | with_reducible apply State.Inner.toIdleDrive | with_reducible apply State.Inner.leaveIdle | with_reducible apply State.Inner.driveReact | with_reducible apply State.Inner.setCap | dsimp only | split)

theorem State.Inner.reportFlash {s₀ s : State} (h : s₀.Inner s) (n pattern : Nat) (flash : Flash) : s₀.Inner (s.reportFlash n pattern flash) := by
  unfold State.reportFlash
  repeat' (first | with_reducible assumption | with_reducible apply State.Inner.raise | dsimp only | split)

theorem State.endStall_sbm (s : State) (f : Frame) (b : Bool) : (s.endStall f b).sbm = s.sbm := by
  unfold State.endStall; split <;> simp

theorem State.Inner.startCommitted {s₀ s : State} (h : s₀.Inner s) (q : Sequence) (f : Frame) (flash : Flash) (i n : Nat)
    (hi : s.sbm.freeEntry = some i) : s₀.Inner (s.startCommitted q f flash i n) := by
  unfold State.startCommitted
  have h1 : s₀.Inner (((s.endStall f true).setSbm s.sbm.takeNumber).openEntry q i
      (s.recordFor q .exposing (some n) flash (some s.settings.lookSnapshot)) false) := by
    refine State.Inner.openEntry (State.Inner.setSbm (h.endStall _ _) _ ?_ ?_) _ _ _ _ hi rfl rfl fun e => by cases e
    · rw [State.endStall_sbm]; rfl
    · rw [State.endStall_sbm]; rfl
  exact ((((h1.expose _ _).raise _ _).reportFlash _ _ _).setFoc _).afterStart _ _ _

theorem State.Inner.stall {s₀ s : State} (h : s₀.Inner s) (f : Frame) (l : Lack) : s₀.Inner (s.stall f l) := by
  unfold State.stall
  repeat' (first | with_reducible assumption | with_reducible apply State.Inner.setCap | with_reducible apply State.Inner.raise | dsimp only | split)

theorem State.Inner.openCommitted {s₀ s : State} (h : s₀.Inner s) (q : Sequence) (f : Frame) (flash : Flash) :
    s₀.Inner (s.openCommitted q f flash) := by
  unfold State.openCommitted
  split
  · exact h.stall _ _
  · split
    · exact h.startCommitted _ _ _ _ _ (by assumption)
    · exact h

theorem State.Inner.evaluateCommitted {s₀ s : State} (h : s₀.Inner s) (q : Sequence) (f : Frame) : s₀.Inner (s.evaluateCommitted q f) := by
  unfold State.evaluateCommitted
  repeat' (first | with_reducible assumption | with_reducible apply State.Inner.openCommitted | with_reducible apply State.Inner.setCap | dsimp only | split)

theorem State.Inner.startRing {s₀ s : State} (h : s₀.Inner s) (q : Sequence) (i : Nat) (hi : s.sbm.freeEntry = some i) :
    s₀.Inner (s.startRing q i) := by
  unfold State.startRing
  exact ((h.openEntry _ _ _ _ hi rfl rfl fun _ => rfl).expose _ _).setCap _

theorem State.Inner.skipRing {s₀ s : State} (h : s₀.Inner s) (q : Sequence) (f : Frame) : s₀.Inner (s.skipRing q f) := by
  unfold State.skipRing
  repeat' (first | with_reducible assumption | with_reducible apply State.Inner.setCap)

theorem State.Inner.openRing {s₀ s : State} (h : s₀.Inner s) (q : Sequence) (f : Frame) : s₀.Inner (s.openRing q f) := by
  unfold State.openRing
  split
  · exact h.startRing _ _ (by assumption)
  · exact h.skipRing _ _

theorem State.Inner.replaceRing {s₀ s : State} (h : s₀.Inner s) (q : Sequence) (f : Frame) : s₀.Inner (s.replaceRing q f) := by
  unfold State.replaceRing
  repeat' (first | with_reducible assumption | with_reducible apply State.Inner.discardRing | with_reducible apply State.Inner.skipRing | with_reducible apply State.Inner.openRing | with_reducible apply State.Inner.setCap | dsimp only | split)

theorem State.Inner.evaluateRing {s₀ s : State} (h : s₀.Inner s) (q : Sequence) (f : Frame) : s₀.Inner (s.evaluateRing q f) := by
  unfold State.evaluateRing
  repeat' (first | with_reducible assumption | with_reducible apply State.Inner.openRing | with_reducible apply State.Inner.replaceRing | dsimp only | split)

theorem State.Inner.wrapPattern {s₀ s : State} (h : s₀.Inner s) : s₀.Inner s.wrapPattern := by
  unfold State.wrapPattern
  repeat' (first | with_reducible assumption | with_reducible apply State.Inner.setCap)

theorem State.Inner.evaluate {s₀ s : State} (h : s₀.Inner s) : s₀.Inner s.evaluate := by
  unfold State.evaluate
  repeat' (first | with_reducible assumption | with_reducible apply State.Inner.evaluateCommitted | with_reducible apply State.Inner.evaluateRing | with_reducible apply State.Inner.wrapPattern | dsimp only | split)

theorem State.Inner.reachOpportunity {s₀ s : State} (h : s₀.Inner s) : s₀.Inner s.reachOpportunity := by
  unfold State.reachOpportunity
  repeat' (first | with_reducible assumption | with_reducible apply State.Inner.evaluate | with_reducible apply State.Inner.setCap | with_reducible apply State.Inner.notify | dsimp only | split)

theorem State.Inner.startReadout {s₀ s : State} (h : s₀.Inner s) : s₀.Inner s.startReadout := by
  unfold State.startReadout
  split
  · exact h
  · refine State.Inner.mapShot (h.setCap _) _ _ ?_
    refine ⟨fun sh => ?_, fun sh => ?_, fun sh => ?_⟩
    · split <;> rfl
    · split <;> rfl
    · split
      · intro e; cases e
      · exact fun x => ⟨x, id, id⟩

theorem State.Inner.measureBlack {s₀ s : State} (h : s₀.Inner s) (samples : List Nat) : s₀.Inner (s.measureBlack samples) := by
  unfold State.measureBlack
  repeat' (first | with_reducible assumption | with_reducible apply State.Inner.setCap | dsimp only | split)

theorem State.Inner.sensorAfterReadout {s₀ s : State} (h : s₀.Inner s) : s₀.Inner s.sensorAfterReadout := by
  unfold State.sensorAfterReadout
  repeat' (first | with_reducible assumption | with_reducible apply State.Inner.unmeasure | with_reducible apply State.Inner.sensorReady | with_reducible apply State.Inner.setCap | dsimp only | split)

theorem State.Inner.writeFrame {s₀ s : State} (h : s₀.Inner s) (f : Flight) (mean black : Nat) (quads : List Quad) : s₀.Inner (s.writeFrame f mean black quads) := by
  unfold State.writeFrame
  repeat' (first | with_reducible assumption | with_reducible apply State.Inner.mapShot | with_reducible apply State.Inner.mapObj | exact ⟨fun _ => rfl, fun _ => rfl, fun _ x => ⟨x, id, id⟩⟩ | exact fun _ => rfl)

theorem State.Inner.finishFrame {s₀ s : State} (h : s₀.Inner s) (i : Nat) : s₀.Inner (s.finishFrame i) := by
  have buffered : s₀.Inner (s.mapShot i fun x => { x with state := .buffered }) :=
    h.mapShot _ _ ⟨fun _ => rfl, fun _ => rfl, fun _ x => by cases x⟩
  unfold State.finishFrame
  split
  · exact h
  · split
    · split
      · exact h.mapObj _ _ _ fun _ => rfl
      · exact h.freeRing _
    all_goals exact (buffered.completeRaw _).reportBuffered _ _

theorem State.Inner.endReadout {s₀ s : State} (h : s₀.Inner s) (f : Flight) (mean black : Nat) (quads : List Quad) (lines : List PupilLines) : s₀.Inner (s.endReadout f mean black quads lines) := by
  unfold State.endReadout
  repeat' (first | with_reducible assumption | with_reducible apply State.Inner.arrival | with_reducible apply State.Inner.sensorAfterReadout | with_reducible apply State.Inner.writeFrame | with_reducible apply State.Inner.finishFrame)

theorem State.Inner.endSequence {s₀ s : State} (h : s₀.Inner s) : s₀.Inner s.endSequence := by
  unfold State.endSequence
  repeat' (first | with_reducible assumption | with_reducible apply State.Inner.toIdleDrive | with_reducible apply State.Inner.dropFrame | with_reducible apply State.Inner.stopBurst | with_reducible apply State.Inner.discardWholeRing | with_reducible apply State.Inner.setCap | dsimp only | split)

theorem State.Inner.leaveActive {s₀ s : State} (h : s₀.Inner s) : s₀.Inner s.leaveActive := by
  unfold State.leaveActive
  repeat' (first | with_reducible assumption | with_reducible apply State.Inner.powerDownSensor | with_reducible apply State.Inner.endSequence | with_reducible apply State.Inner.setFoc)

theorem State.Inner.enterActive {s₀ s : State} (h : s₀.Inner s) : s₀.Inner s.enterActive := by
  unfold State.enterActive
  repeat' (first | with_reducible assumption | with_reducible apply State.Inner.powerUpSensor | with_reducible apply State.Inner.driveReact | with_reducible apply State.Inner.evaluate | with_reducible apply State.Inner.notify)

theorem State.Inner.setPowerState {s₀ s : State} (h : s₀.Inner s) (new : PowerState) : s₀.Inner (s.setPowerState new) := by
  unfold State.setPowerState
  repeat' (first | with_reducible assumption | with_reducible apply State.Inner.leaveActive | with_reducible apply State.Inner.enterActive | with_reducible apply State.Inner.setSup | exact ⟨rfl, rfl, rfl⟩ | dsimp only | split)

theorem State.Inner.wokenTo {s₀ s : State} (h : s₀.Inner s) (new : PowerState) (cause : WakeCause) : s₀.Inner (s.wokenTo new cause) := by
  unfold State.wokenTo
  repeat' (first | with_reducible assumption | with_reducible apply State.Inner.setPowerState | with_reducible apply State.Inner.raise)

theorem State.Inner.wakeTo {s₀ s : State} (h : s₀.Inner s) (target : PowerState) (cause : WakeCause) :
    s₀.Inner (s.wakeTo target cause) := by
  unfold State.wakeTo
  split
  · exact h.setSup _ (by exact ⟨rfl, rfl, rfl⟩)
  · exact State.Inner.setSbm (h.setSup _ (by exact ⟨rfl, rfl, rfl⟩)) _ (by exact rfl) (by exact rfl)

theorem State.Inner.askActive {s₀ s : State} (h : s₀.Inner s) : s₀.Inner s.askActive := by
  unfold State.askActive
  repeat' (first | with_reducible assumption | with_reducible apply State.Inner.wokenTo | with_reducible apply State.Inner.wakeTo | dsimp only | split)

theorem State.Inner.pressed {s₀ s : State} (h : s₀.Inner s) (active : Bool) : s₀.Inner (s.pressed active) := by
  unfold State.pressed
  repeat' (first | with_reducible assumption | with_reducible apply State.Inner.driveReact | with_reducible apply State.Inner.askActive | dsimp only | split)

theorem State.Inner.triggerEdge {s₀ s : State} (h : s₀.Inner s) : s₀.Inner s.triggerEdge := by
  unfold State.triggerEdge
  repeat' (first | with_reducible assumption | with_reducible apply State.Inner.driveReact | with_reducible apply State.Inner.askActive | with_reducible apply State.Inner.setCap | dsimp only | split)

theorem State.Inner.recognize {s₀ s : State} (h : s₀.Inner s) (l : InputLine) : s₀.Inner (s.recognize l) := by
  unfold State.recognize
  repeat' (first | with_reducible assumption | with_reducible apply State.Inner.pressed | with_reducible apply State.Inner.triggerEdge | with_reducible apply State.Inner.setCap | dsimp only | split)

theorem State.Inner.dropTrigger {s₀ s : State} (h : s₀.Inner s) : s₀.Inner s.dropTrigger := by
  unfold State.dropTrigger
  repeat' (first | with_reducible assumption | with_reducible apply State.Inner.toIdleDrive | with_reducible apply State.Inner.dropFrame | with_reducible apply State.Inner.setCap | dsimp only | split)

/-! ### Settle.lean -/

theorem State.Inner.refresh {s₀ s : State} (h : s₀.Inner s) : s₀.Inner s.refresh := h.refreshFocus.gateRefresh

theorem State.Inner.handle {s₀ s : State} (h : s₀.Inner s) (n : Notice) : s₀.Inner (s.handle n) := by
  cases n with
  | evaluate => exact h.evaluate
  | engineLook => exact h.engineLook
  | recallAsk sl => exact h.recallAsk sl
  | linkAsk => exact h.linkAsk
  | preempt => exact h.preempt
  | expire m => exact h.expireItem m

theorem State.Inner.drain {s₀ s : State} (h : s₀.Inner s) (fuel : Nat) : s₀.Inner (s.drain fuel) := by
  induction fuel generalizing s with
  | zero => exact h.refresh
  | succ k ih =>
    have h1 := h.refresh
    unfold State.drain
    dsimp only
    split
    · exact h1
    · exact ih ((h1.setNotices _).handle _)

/-- The end of a step does only what blocks do within it. -/
theorem State.Inner.settle {s₀ s : State} (h : s₀.Inner s) : s₀.Inner s.settle := h.drain _

/-! ### Supervisor.lean -/

theorem State.Inner.judgeLevel {s₀ s : State} (h : s₀.Inner s) : s₀.Inner s.judgeLevel := by
  unfold State.judgeLevel
  repeat' (first | with_reducible assumption | with_reducible apply State.Inner.setLevel)

theorem State.Inner.takeReading {s₀ s : State} (h : s₀.Inner s) (millivolts : Nat) : s₀.Inner (s.takeReading millivolts) := by
  unfold State.takeReading
  repeat' (first | with_reducible assumption | with_reducible apply State.Inner.judgeLevel | with_reducible apply State.Inner.setSup | exact ⟨rfl, rfl, rfl⟩)

theorem State.Inner.sleep {s₀ s : State} (h : s₀.Inner s) : s₀.Inner s.sleep := by
  unfold State.sleep
  repeat' (first | with_reducible assumption | with_reducible apply State.Inner.setPowerState | with_reducible apply State.Inner.setSbm | with_reducible rfl)

theorem State.Inner.endWake {s₀ s : State} (h : s₀.Inner s) (w : Wake) : s₀.Inner (s.endWake w) := by
  unfold State.endWake
  repeat' (first | with_reducible assumption | with_reducible apply State.Inner.wokenTo | with_reducible apply State.Inner.setSup | exact ⟨rfl, rfl, rfl⟩)

theorem State.Inner.setTimeBase {s₀ s : State} (h : s₀.Inner s) (t : Nat) : s₀.Inner (s.setTimeBase t) := by
  unfold State.setTimeBase
  exact State.Inner.expirePassed (State.Inner.loseSubject (h.setSup _ (by exact ⟨rfl, rfl, rfl⟩)))

end Sys2Proof.Machine
end

