-- ==== Sys2Proof/Laws/Commands.lean ====
section
/-! SUPPORT. What the commands and events do within a step is only what `Inner` says, function by function. -/

namespace Sys2Proof.Machine
open Sys2Proof

/-! ### ShotCommands.lean -/

theorem State.Inner.tellTags {s₀ s : State} (h : s₀.Inner s) (i n : Nat) (old new : Shot) : s₀.Inner (s.tellTags i n old new) := by
  unfold State.tellTags
  repeat' (first | with_reducible assumption | with_reducible apply State.Inner.moveUrgent | with_reducible apply State.Inner.raiseItems | with_reducible apply State.Inner.evaluateRules | dsimp only | split)

theorem State.Inner.applyTags {s₀ s : State} (h : s₀.Inner s) (i n : Nat) (sh : Shot) (urgent picked : TagAction)
    (rating : Option Nat) (hs : s.shot i = some sh) : s₀.Inner (s.applyTags i n sh urgent picked rating) := by
  have h1 : s₀.Inner (s.mapShot i fun _ => sh.tagged urgent picked rating) := by
    have e : s.mapShot i (fun _ => sh.tagged urgent picked rating) = s.mapShot i (fun x => x.tagged urgent picked rating) := by
      simp [State.mapShot, hs]
    rw [e]
    exact h.mapShot _ _ ⟨fun _ => rfl, fun _ => rfl, fun _ x => ⟨x, id, id⟩⟩
  unfold State.applyTags
  dsimp only
  split
  · exact h1.tellTags _ _ _ _
  · exact h1

/-! ### PictureCommands.lean -/

theorem State.Inner.relookJob {s₀ s : State} (h : s₀.Inner s) (n : Nat) (look : JobLook) : s₀.Inner (s.relookJob n look) := by
  unfold State.relookJob
  repeat' (first | with_reducible assumption | with_reducible apply State.Inner.lookIf | with_reducible apply State.Inner.setDev)

/-! ### TetherCommands.lean -/

theorem State.Inner.dropInbox {s₀ s : State} (h : s₀.Inner s) (old : TetherSettings) : s₀.Inner (s.dropInbox old) := by
  unfold State.dropInbox
  repeat' (first | with_reducible assumption | with_reducible apply State.Inner.setTet | dsimp only | split)

theorem State.Inner.stopRejoin {s₀ s : State} (h : s₀.Inner s) : s₀.Inner s.stopRejoin := by
  unfold State.stopRejoin
  repeat' (first | with_reducible assumption | with_reducible apply State.Inner.setTet | dsimp only | split)

theorem State.Inner.raiseLevel {s₀ s : State} (h : s₀.Inner s) (old : TetherSettings) : s₀.Inner (s.raiseLevel old) := by
  unfold State.raiseLevel
  repeat' (first | with_reducible assumption | with_reducible apply State.Inner.raiseItems | with_reducible refine State.Inner.foldl _ _ ?_ (fun t x h => ?_) | dsimp only | split)

theorem State.Inner.leaveInbox {s₀ s : State} (h : s₀.Inner s) (p : Pull) : s₀.Inner (s.leaveInbox p) := by
  unfold State.leaveInbox
  repeat' (first | with_reducible assumption | with_reducible apply State.Inner.setTet)

/-! ### SupplyEvents.lean -/

theorem State.Inner.wakeOver {s₀ s : State} (h : s₀.Inner s) : s₀.Inner s.wakeOver := by
  unfold State.wakeOver
  repeat' (first | with_reducible assumption | with_reducible apply State.Inner.endWake | dsimp only | split)

/-! ### SensorEvents.lean -/

theorem State.Inner.liveFrame {s₀ s : State} (h : s₀.Inner s) (lines : List PupilLines) : s₀.Inner (s.liveFrame lines) := by
  unfold State.liveFrame
  repeat' (first | with_reducible assumption | with_reducible apply State.Inner.arrival | with_reducible apply State.Inner.setCap)

theorem State.Inner.lineLevel {s₀ s : State} (h : s₀.Inner s) (l : InputLine) (high : Bool) : s₀.Inner (s.lineLevel l high) := by
  unfold State.lineLevel
  repeat' (first | with_reducible assumption | with_reducible apply State.Inner.setCap)

theorem State.Inner.expireFlashWait {s₀ s : State} (h : s₀.Inner s) : s₀.Inner s.expireFlashWait := by
  unfold State.expireFlashWait
  repeat' (first | with_reducible assumption | with_reducible apply State.Inner.evaluate | with_reducible apply State.Inner.setCap | with_reducible apply State.Inner.notify)

theorem State.Inner.readoutOver {s₀ s : State} (h : s₀.Inner s) (quads : List Quad) (lines : List PupilLines) : s₀.Inner (s.readoutOver quads lines) := by
  unfold State.readoutOver
  repeat' (first | with_reducible assumption | with_reducible apply State.Inner.endReadout | dsimp only | split)

/-! ### FocusEvents.lean -/

theorem State.Inner.expireFocusWait {s₀ s : State} (h : s₀.Inner s) : s₀.Inner s.expireFocusWait := by
  unfold State.expireFocusWait
  repeat' (first | with_reducible assumption | with_reducible apply State.Inner.setFoc)

theorem State.Inner.passOver {s₀ s : State} (h : s₀.Inner s) : s₀.Inner s.passOver := by
  unfold State.passOver
  repeat' (first | with_reducible assumption | with_reducible apply State.Inner.completeThumb | with_reducible apply State.Inner.completeRender | dsimp only | split)

end Sys2Proof.Machine
end

