-- ==== Sys2Proof/Laws/Growth.lean ====
section
/-! SUPPORT. What card jobs, develop jobs and send rules leave of a raw that completes: `Grows i r s` says that entry `i`
of `r` keeps its record and its raw in `s`, and that the raw loses no card hold or UNSAVED (R23). -/

namespace Sys2Proof.Machine
open Sys2Proof

/-- A hold that keeps a raw for the cards (R18, R19). -/
def HoldSet.forCards (h : HoldSet) : Bool := h.cardA || h.cardB || h.unsaved

/-- What an object keeps while holds are placed on it. -/
structure Obj.Grows (o o' : Obj) : Prop where
  size : o'.size = o.size
  extents : o'.extents = o.extents
  complete : o'.complete = o.complete
  cardBound : o'.cardBound = o.cardBound
  data : o'.data = o.data
  fill : o'.holds.fill = o.holds.fill
  ring : o'.holds.ring = o.holds.ring
  forCards : o.holds.forCards = true → o'.holds.forCards = true

/-- What a shot record keeps while its raw's holds are placed. -/
structure Shot.Grows (sh sh' : Shot) : Prop where
  state : sh'.state = sh.state
  number : sh'.number = sh.number
  startTime : sh'.startTime = sh.startTime
  look : sh'.look = sh.look
  stats : sh'.stats = sh.stats

/-- Entry `i` of `r` keeps its record and its raw in `s`. -/
def State.Grows (i : Nat) (r s : State) : Prop :=
  ∀ sh o, r.shot i = some sh → sh.raw = some o →
    ∃ sh' o', s.shot i = some sh' ∧ sh'.raw = some o' ∧ sh.Grows sh' ∧ o.Grows o'

theorem Obj.Grows.refl (o : Obj) : o.Grows o := ⟨rfl, rfl, rfl, rfl, rfl, rfl, rfl, id⟩

theorem Obj.Grows.trans {o p q : Obj} (h : o.Grows p) (h' : p.Grows q) : o.Grows q :=
  ⟨h'.size.trans h.size, h'.extents.trans h.extents, h'.complete.trans h.complete, h'.cardBound.trans h.cardBound,
    h'.data.trans h.data, h'.fill.trans h.fill, h'.ring.trans h.ring, fun x => h'.forCards (h.forCards x)⟩

theorem Shot.Grows.refl (sh : Shot) : sh.Grows sh := ⟨rfl, rfl, rfl, rfl, rfl⟩

theorem Shot.Grows.trans {a b c : Shot} (h : a.Grows b) (h' : b.Grows c) : a.Grows c :=
  ⟨h'.state.trans h.state, h'.number.trans h.number, h'.startTime.trans h.startTime, h'.look.trans h.look,
    h'.stats.trans h.stats⟩

theorem State.Grows.refl (i : Nat) (s : State) : State.Grows i s s := fun sh o h h' =>
  ⟨sh, o, h, h', .refl sh, .refl o⟩

theorem State.Grows.trans {i : Nat} {r s t : State} (h : State.Grows i r s) (h' : State.Grows i s t) : State.Grows i r t := by
  intro sh o e e'
  obtain ⟨sh1, o1, e1, e1', g1, k1⟩ := h sh o e e'
  obtain ⟨sh2, o2, e2, e2', g2, k2⟩ := h' sh1 o1 e1 e1'
  exact ⟨sh2, o2, e2, e2', g1.trans g2, k1.trans k2⟩

/-- One more function that leaves the shot table alone. -/
theorem State.Grows.next {i : Nat} {r s t : State} (h : State.Grows i r s) (e : t.shot i = s.shot i) : State.Grows i r t := by
  intro sh o a b
  rw [e]
  exact h sh o a b

theorem State.Grows.foldl {i : Nat} {α : Type} {r s : State} (l : List α) (f : State → α → State)
    (h : State.Grows i r s) (hf : ∀ t x, State.Grows i r t → State.Grows i r (f t x)) : State.Grows i r (l.foldl f s) := by
  induction l generalizing s with
  | nil => exact h
  | cons x l ih => exact ih (hf s x h)

/-! ### The shared operations -/

theorem State.Grows.setDev {i : Nat} {r s : State} (h : State.Grows i r s) (d : Dev) : State.Grows i r (s.setDev d) := h.next rfl

theorem State.Grows.setTet {i : Nat} {r s : State} (h : State.Grows i r s) (t : Tet) : State.Grows i r (s.setTet t) := h.next rfl

theorem State.Grows.setSlot {i : Nat} {r s : State} (h : State.Grows i r s) (sl : Slot) (c : CardSlot) :
    State.Grows i r (s.setSlot sl c) := h.next rfl

theorem State.Grows.notify {i : Nat} {r s : State} (h : State.Grows i r s) (n : Notice) : State.Grows i r (s.notify n) := by
  unfold State.notify
  split
  · exact h
  · exact h.next rfl

theorem State.Grows.raise {i : Nat} {r s : State} (h : State.Grows i r s) (k : ReportKind) (fs : List Byte) :
    State.Grows i r (s.raise k fs) := by
  refine h.next ?_
  unfold State.raise
  split <;> rfl

/-- A record changed in place that keeps its raw. -/
theorem State.Grows.mapShot {i : Nat} {r s : State} (h : State.Grows i r s) (j : Nat) (f : Shot → Shot)
    (hf : ∀ sh o, sh.raw = some o → ∃ o', (f sh).raw = some o' ∧ sh.Grows (f sh) ∧ o.Grows o') :
    State.Grows i r (s.mapShot j f) := by
  refine h.trans fun sh o e e' => ?_
  rw [State.shot_mapShot]
  split
  · obtain ⟨o', a, b, c⟩ := hf sh o e'
    exact ⟨f sh, o', by simp [e], a, b, c⟩
  · exact ⟨sh, o, e, e', .refl sh, .refl o⟩

/-- An object changed in place that grows. -/
theorem State.Grows.mapObj {i : Nat} {r s : State} (h : State.Grows i r s) (j : Nat) (k : Pict) (f : Obj → Obj)
    (hf : ∀ o : Obj, o.Grows (f o)) : State.Grows i r (s.mapObj j k f) := by
  refine h.mapShot j _ fun sh o e => ?_
  cases k
  · exact ⟨o, e, .refl sh, .refl o⟩
  · exact ⟨o, e, ⟨rfl, rfl, rfl, rfl, rfl⟩, .refl o⟩
  · exact ⟨f o, by simp [Shot.setObj, Shot.obj, e], ⟨rfl, rfl, rfl, rfl, rfl⟩, hf o⟩

theorem State.Grows.setCardStatus {i : Nat} {r s : State} (h : State.Grows i r s) (j : Nat) (k : Pict) (sl : Slot) (v : CardStatus) :
    State.Grows i r (s.setCardStatus j k sl v) := h.mapShot j _ fun _ o e => ⟨o, e, ⟨rfl, rfl, rfl, rfl, rfl⟩, .refl o⟩

/-- DEVELOP or TETHER is placed. -/
theorem State.Grows.place {i : Nat} {r s : State} (h : State.Grows i r s) (j : Nat) (k : Pict) (hd : Hold)
    (hf : hd ≠ .fill) (hr : hd ≠ .ring) : State.Grows i r (s.place j k hd) := by
  refine h.mapObj j k _ fun o => ?_
  cases hd
  · exact absurd rfl hf
  · exact absurd rfl hr
  all_goals exact ⟨rfl, rfl, rfl, rfl, rfl, rfl, rfl, by
    simp only [HoldSet.forCards, HoldSet.set]
    cases o.holds.cardA <;> cases o.holds.cardB <;> cases o.holds.unsaved <;> simp⟩

/-! ### Card jobs -/

theorem State.Grows.tryStart {i : Nat} {r s : State} (h : State.Grows i r s) (sl : Slot) : State.Grows i r (s.tryStart sl) := by
  unfold State.tryStart
  repeat' (first | with_reducible assumption | with_reducible apply State.Grows.setCardStatus | with_reducible apply State.Grows.raise | with_reducible apply State.Grows.setSlot | dsimp only | split)

theorem State.Grows.joinQueue {i : Nat} {r s : State} (h : State.Grows i r s) (sl : Slot) (j : WriteJob) (try' : State → State)
    (ht : ∀ t, State.Grows i r t → State.Grows i r (try' t)) : State.Grows i r (s.joinQueue sl j try') := by
  unfold State.joinQueue
  dsimp only
  split
  · exact ht _ (h.setSlot _ _)
  · exact h.setSlot _ _

theorem State.Grows.moveJob {i : Nat} {r s : State} (h : State.Grows i r s) (left : CardStatus) (j : WriteJob) :
    State.Grows i r (s.moveJob left j) := by
  unfold State.moveJob
  have h1 : State.Grows i r ((s.setCardStatus j.entry j.kind .a left).mapObj j.entry j.kind
      fun o => { o with holds := (o.holds.set .cardA false).set .cardB true }) :=
    (h.setCardStatus _ _ _ _).mapObj _ _ _ fun o => ⟨rfl, rfl, rfl, rfl, rfl, rfl, rfl, by simp [HoldSet.forCards, HoldSet.set]⟩
  dsimp only
  split
  · exact h1
  · exact (h1.setCardStatus _ _ _ _).joinQueue _ _ _ fun _ ht => ht.tryStart _

theorem State.Grows.moveQueue {i : Nat} {r s : State} (h : State.Grows i r s) : State.Grows i r s.moveQueue := by
  unfold State.moveQueue
  exact State.Grows.foldl _ _ (h.setSlot _ _) fun t x ht => ht.moveJob _ _

theorem State.Grows.tryHead {i : Nat} {r s : State} (h : State.Grows i r s) (sl : Slot) : State.Grows i r (s.tryHead sl) := by
  unfold State.tryHead
  repeat' (first | with_reducible assumption | with_reducible apply State.Grows.moveQueue | with_reducible apply State.Grows.tryStart | dsimp only | split)

theorem State.Grows.enqueueJob {i : Nat} {r s : State} (h : State.Grows i r s) (j : Nat) (k : Pict) (sl : Slot) :
    State.Grows i r (s.enqueueJob j k sl) := by
  unfold State.enqueueJob
  split
  · refine State.Grows.joinQueue ?_ _ _ _ fun _ ht => ht.tryHead _
    refine (h.setCardStatus _ _ _ _).mapObj _ _ _ fun o => ?_
    cases sl <;> exact ⟨rfl, rfl, rfl, rfl, rfl, rfl, rfl, by simp [HoldSet.forCards, HoldSet.set, cardHold]⟩
  · exact h

theorem State.Grows.enqueueOn {i : Nat} {r s : State} (h : State.Grows i r s) (j : Nat) (k : Pict) (ts : List Slot) :
    State.Grows i r (s.enqueueOn j k ts) := State.Grows.foldl _ _ h fun _ _ ht => ht.enqueueJob _ _ _

theorem State.Grows.cardJobs {i : Nat} {r s : State} (h : State.Grows i r s) (j : Nat) (k : Pict) :
    State.Grows i r (s.cardJobs j k) := by
  unfold State.cardJobs
  split
  · exact h.place _ _ _ (by simp) (by simp)
  · exact h.enqueueOn _ _ _

/-- After the card jobs of a raw it holds a card hold or UNSAVED (R19, R144). -/
theorem State.cardJobs_forCards (s : State) {i : Nat} {sh : Shot} {o : Obj} (h : s.shot i = some sh) (e : sh.raw = some o) :
    ∃ sh' o', (s.cardJobs i .raw).shot i = some sh' ∧ sh'.raw = some o' ∧ sh.Grows sh' ∧ o.Grows o' ∧ o'.holds.forCards = true := by
  unfold State.cardJobs
  generalize s.targets .raw = ts
  split
  · refine ⟨sh.setObj .raw (some { o with holds := o.holds.set .unsaved true }), _, ?_, rfl, ⟨rfl, rfl, rfl, rfl, rfl⟩,
      ⟨rfl, rfl, rfl, rfl, rfl, rfl, rfl, ?_⟩, ?_⟩
    · simp [State.place, State.mapObj, State.shot_mapShot, h, Shot.obj, e]
    · simp [HoldSet.forCards, HoldSet.set]
    · simp [HoldSet.forCards, HoldSet.set]
  · cases ts with
    | nil => contradiction
    | cons sl ts =>
      have hob : s.obj i .raw = some o := by simp [State.obj, h, Shot.obj, e]
      have first : ∃ sh' o', (s.enqueueJob i .raw sl).shot i = some sh' ∧ sh'.raw = some o' ∧ sh.Grows sh' ∧ o.Grows o'
          ∧ o'.holds.forCards = true := by
        unfold State.enqueueJob
        simp only [h, hob]
        obtain ⟨sh', o', a, b, c, d⟩ := State.Grows.joinQueue (i := i)
          (State.Grows.refl i ((s.setCardStatus i .raw sl .queued).mapObj i .raw
            fun o => { o with holds := (o.holds.set (cardHold sl) true).set .unsaved false })) sl
          { shot := sh.number.getD 0, entry := i, kind := .raw, blocks := blocksFor o.size, extents := o.extents.length,
            start := none, written := 0, stop := false } (fun x => x.tryHead sl) (fun _ ht => ht.tryHead _)
          ({ sh with cards := sh.cards.put .raw sl .queued, raw := some { o with
              holds := (o.holds.set (cardHold sl) true).set .unsaved false } })
          { o with holds := (o.holds.set (cardHold sl) true).set .unsaved false }
          (by simp [State.mapObj, State.setCardStatus, State.shot_mapShot, h, Shot.obj, Shot.setObj, e]) rfl
        refine ⟨sh', o', a, b, ⟨c.state, c.number, c.startTime, c.look, c.stats⟩, ?_, ?_⟩
        · cases sl <;> exact ⟨d.size, d.extents, d.complete, d.cardBound, d.data, d.fill, d.ring,
            fun _ => d.forCards (by simp [HoldSet.forCards, HoldSet.set, cardHold])⟩
        · cases sl <;> exact d.forCards (by simp [HoldSet.forCards, HoldSet.set, cardHold])
      obtain ⟨sh1, o1, a, b, c, d, f⟩ := first
      obtain ⟨sh2, o2, a', b', c', d'⟩ := State.Grows.enqueueOn (State.Grows.refl i (s.enqueueJob i .raw sl)) i .raw ts sh1 o1 a b
      exact ⟨sh2, o2, a', b', c.trans c', d.trans d', d'.forCards f⟩

/-! ### Develop jobs -/

theorem State.Grows.placeDevelop {i : Nat} {r s : State} (h : State.Grows i r s) (j : Nat) : State.Grows i r (s.placeDevelop j) := by
  unfold State.placeDevelop
  split
  · exact h.place _ _ _ Hold.noConfusion Hold.noConfusion
  · exact h

theorem State.Grows.addJob {i : Nat} {r s : State} (h : State.Grows i r s) (j : Job) : State.Grows i r (s.addJob j) := by
  unfold State.addJob
  dsimp only
  refine State.Grows.notify ?_ _
  split
  · exact (h.setDev _).placeDevelop _
  · exact h.setDev _

theorem State.Grows.requestJob {i : Nat} {r s : State} (h : State.Grows i r s) (j : Nat) (k : Pict) (look : JobLook) :
    State.Grows i r (s.requestJob j k look).1 := by
  unfold State.requestJob
  repeat' (first | with_reducible assumption | with_reducible apply State.Grows.addJob | dsimp only | split)

theorem State.Grows.completionJobs {i : Nat} {r s : State} (h : State.Grows i r s) (j : Nat) :
    State.Grows i r (s.completionJobs j) := by
  unfold State.completionJobs
  repeat' (first | with_reducible assumption | with_reducible apply State.Grows.requestJob | dsimp only | split)

/-! ### Items -/

theorem State.Grows.mapItem {i : Nat} {r s : State} (h : State.Grows i r s) (m : Nat) (f : Item → Item) :
    State.Grows i r (s.mapItem m f) := h.next rfl

theorem State.Grows.notifyExpired {i : Nat} {r s : State} (h : State.Grows i r s) (m : Nat) (d : Option Nat) :
    State.Grows i r (s.notifyExpired m d) := by
  unfold State.notifyExpired
  repeat' (first | with_reducible assumption | with_reducible apply State.Grows.notify | split)

theorem State.Grows.mergeItem {i : Nat} {r s : State} (h : State.Grows i r s) (x : Item) (p : Nat) (d : Option Nat) (q : Policy) :
    State.Grows i r (s.mergeItem x p d q) := by
  unfold State.mergeItem State.judgeRise
  repeat' (first | with_reducible assumption | with_reducible apply State.Grows.notify | with_reducible apply State.Grows.notifyExpired | with_reducible apply State.Grows.mapItem | dsimp only | split)

theorem State.Grows.itemReady {i : Nat} {r s : State} (h : State.Grows i r s) (n : Nat) (k : Pict) :
    State.Grows i r (s.itemReady n k) := by
  unfold State.itemReady State.placeTether
  refine (State.Grows.notify ?_ _).notify _
  split
  · exact h
  · exact h.place _ _ _ Hold.noConfusion Hold.noConfusion

theorem State.Grows.makeItem {i : Nat} {r s : State} (h : State.Grows i r s) (n : Nat) (k : Pict) (p : Nat) (d : Option Nat)
    (q : Policy) (o : Origin) (st : ItemState) : State.Grows i r (s.makeItem n k p d q o st) := by
  unfold State.makeItem
  dsimp only
  split
  · exact ((h.setTet _).notifyExpired _ _).itemReady _ _
  · exact (h.setTet _).notifyExpired _ _

theorem State.Grows.requestRecall {i : Nat} {r s : State} (h : State.Grows i r s) (n : Nat) (k : Pict) (host : Bool)
    (item : Option Nat) : State.Grows i r (s.requestRecall n k host item).1 := by
  unfold State.requestRecall State.queueRecall
  repeat' (first | with_reducible assumption | with_reducible apply State.Grows.notify | with_reducible apply State.Grows.setSlot | dsimp only | split)

theorem State.Grows.findRendition {i : Nat} {r s : State} (h : State.Grows i r s) (j n : Nat) (sh : Shot) (m : Nat) :
    State.Grows i r (s.findRendition j n sh m).1 := by
  unfold State.findRendition State.recallFor State.recallToDevelop
  repeat' (first | with_reducible assumption | with_reducible apply State.Grows.requestJob | with_reducible apply State.Grows.requestRecall | dsimp only | split)

theorem State.Grows.findCommitted {i : Nat} {r s : State} (h : State.Grows i r s) (j n : Nat) (sh : Shot) (k : Pict) (m : Nat) :
    State.Grows i r (s.findCommitted j n sh k m).1 := by
  unfold State.findCommitted State.recallFor
  repeat' (first | with_reducible assumption | with_reducible apply State.Grows.findRendition | with_reducible apply State.Grows.requestJob | with_reducible apply State.Grows.requestRecall | dsimp only | split)

theorem State.Grows.requestItem {i : Nat} {r s : State} (h : State.Grows i r s) (n : Nat) (k : Pict) (p : Nat) (d : Option Nat)
    (q : Policy) (o : Origin) : State.Grows i r (s.requestItem n k p d q o).1 := by
  unfold State.requestItem State.findPicture State.recallFor
  repeat' (first | with_reducible assumption | with_reducible apply State.Grows.makeItem | with_reducible apply State.Grows.mergeItem | with_reducible apply State.Grows.findCommitted | with_reducible apply State.Grows.requestRecall | dsimp only | split)

theorem State.Grows.evaluateRule {i : Nat} {r s : State} (h : State.Grows i r s) (j index : Nat) (x : SendRule)
    (which : RuleMatch → Bool) : State.Grows i r (s.evaluateRule j index x which) := by
  unfold State.evaluateRule State.applyRule State.tellRule State.decline
  repeat' (first | with_reducible assumption | with_reducible apply State.Grows.raise | with_reducible apply State.Grows.setTet | with_reducible apply State.Grows.requestItem | dsimp only | split)

theorem State.Grows.evaluateRules {i : Nat} {r s : State} (h : State.Grows i r s) (j : Nat) (which : RuleMatch → Bool) :
    State.Grows i r (s.evaluateRules j which) := (h.evaluateRule _ _ _ _).evaluateRule _ _ _ _

/-! ### The completion of a raw -/

/-- A raw that CAP made completes: it is COMPLETE and card-bound, loses FILL and RING, and stays (R8, R18, R23). -/
theorem State.completeRaw_raw (s : State) {i : Nat} {sh : Shot} {o : Obj} (h : s.shot i = some sh) (e : sh.raw = some o) :
    ∃ sh' o', (s.completeRaw i).shot i = some sh' ∧ sh'.raw = some o' ∧ sh.Grows sh' ∧ o'.complete = true
      ∧ o'.cardBound = true ∧ o'.holds.fill = false ∧ o'.holds.ring = false ∧ o'.extents = o.extents ∧ o'.size = o.size
      ∧ o'.data = o.data := by
  unfold State.completeRaw
  obtain ⟨sh1, o1, a, b, c, d, f⟩ := State.cardJobs_forCards
    (s.mapObj i .raw fun o => { o with complete := true, cardBound := true }) (i := i)
    (sh := { sh with raw := some { o with complete := true, cardBound := true } })
    (o := { o with complete := true, cardBound := true })
    (by simp [State.mapObj, State.shot_mapShot, h, Shot.obj, Shot.setObj, e]) rfl
  obtain ⟨sh2, o2, a2, b2, c2, d2⟩ := ((State.Grows.refl i _).completionJobs i).evaluateRules i (fun _ => true) sh1 o1 a b
  have f2 := d2.forCards f
  have c3 := c.trans c2
  have d3 := d.trans d2
  dsimp only
  generalize ((State.cardJobs _ i .raw).completionJobs i).evaluateRules i (fun _ => true) = s2 at a2 ⊢
  have ho : s2.obj i .raw = some o2 := by simp only [State.obj, a2, Option.bind_some, Shot.obj, b2]
  have hne : ((o2.holds.set .fill false).set .ring false).isEmpty = false := by
    cases hh : ((o2.holds.set .fill false).set .ring false).isEmpty
    · rfl
    · have := beq_iff_eq.1 hh
      simp only [HoldSet.set, HoldSet.mk.injEq] at this
      simp [HoldSet.forCards, this] at f2
  refine ⟨{ sh2 with raw := some { o2 with holds := (o2.holds.set .fill false).set .ring false } }, _, ?_, rfl,
    ⟨c3.state, c3.number, c3.startTime, c3.look, c3.stats⟩, d3.complete, d3.cardBound, rfl, rfl, d3.extents, d3.size, d3.data⟩
  rw [show ∀ t : State, (t.jobsReady i).shot i = t.shot i from fun t => by
    unfold State.jobsReady State.lookIf State.notify; (repeat' split) <;> rfl]
  unfold State.setHolds
  simp only [ho, hne]
  simp [State.mapObj, State.shot_mapShot, a2, Shot.obj, Shot.setObj, b2]

end Sys2Proof.Machine
end

