-- ==== Sys2Proof/Laws/Kept.lean ====
section
/-! SUPPORT. What the end of a step leaves alone: `Keeps r s` says that `s` has the kept part of `r`; every function the end of a
step calls is shown to keep it. -/

namespace Sys2Proof.Machine
open Sys2Proof

/-- `s` has the kept part of `r`. -/
def State.Keeps (r s : State) : Prop := s.kept = r.kept

theorem State.Keeps.refl (s : State) : s.Keeps s := rfl

/-- One more function on a chain. -/
theorem State.Keeps.next {r s t : State} (h : r.Keeps s) (e : t.kept = s.kept) : r.Keeps t := Eq.trans e h

theorem State.Keeps.foldl {α : Type} {r s : State} (l : List α) (f : State → α → State)
    (h : r.Keeps s) (hf : ∀ t x, r.Keeps t → r.Keeps (f t x)) : r.Keeps (l.foldl f s) := by
  induction l generalizing s with
  | nil => exact h
  | cons x l ih => exact ih (hf s x h)

/-! ### The shared operations -/

theorem State.Keeps.setNotices {r s : State} (h : r.Keeps s) (n : List Notice) : r.Keeps (s.setNotices n) := h.next rfl

theorem State.Keeps.setCap {r s : State} (h : r.Keeps s) (c : Cap) (e : (s.setCap c).kept = s.kept) : r.Keeps (s.setCap c) := h.next e

theorem State.Keeps.setFoc {r s : State} (h : r.Keeps s) (f : Foc) (e : (s.setFoc f).kept = s.kept) : r.Keeps (s.setFoc f) := h.next e

theorem State.Keeps.setDev {r s : State} (h : r.Keeps s) (d : Dev) (e : (s.setDev d).kept = s.kept) : r.Keeps (s.setDev d) := h.next e

theorem State.Keeps.setTet {r s : State} (h : r.Keeps s) (t : Tet) (e : (s.setTet t).kept = s.kept) : r.Keeps (s.setTet t) := h.next e

theorem State.Keeps.setSbm {r s : State} (h : r.Keeps s) (b : Sbm) (e : (s.setSbm b).kept = s.kept) : r.Keeps (s.setSbm b) := h.next e

/-- A slot replaced elsewhere than in what is kept. -/
theorem State.Keeps.setSlot {r s : State} (h : r.Keeps s) (sl : Slot) (c : CardSlot) (e : c.kept = (s.slot sl).kept) :
    r.Keeps (s.setSlot sl c) := by
  refine h.next ?_
  cases sl
  · have e' : c.kept = s.crd.a.kept := e
    simp only [State.kept, State.setSlot, Crd.put, State.setCrd_crd, e']; rfl
  · have e' : c.kept = s.crd.b.kept := e
    simp only [State.kept, State.setSlot, Crd.put, State.setCrd_crd, e']; rfl

theorem State.Keeps.notify {r s : State} (h : r.Keeps s) (n : Notice) : r.Keeps (s.notify n) := by
  unfold State.notify; split
  · exact h
  · exact h.setNotices _

theorem State.Keeps.announceSpace {r s : State} (h : r.Keeps s) : r.Keeps s.announceSpace :=
  (((h.notify _).notify _).notify _).notify _

theorem State.Keeps.announceRetirement {r s : State} (h : r.Keeps s) : r.Keeps s.announceRetirement :=
  ((h.notify _).notify _).notify _

/-- A report changes the records, the next number and the lost count alone. -/
theorem State.Keeps.raise {r s : State} (h : r.Keeps s) (k : ReportKind) (fs : List Byte) : r.Keeps (s.raise k fs) := by
  refine h.next ?_
  unfold State.raise; split
  · rfl
  · simp only [State.kept, State.setLink_link]; unfold Link.take; split <;> rfl

theorem State.Keeps.mapShot {r s : State} (h : r.Keeps s) (i : Nat) (f : Shot → Shot) : r.Keeps (s.mapShot i f) := by
  unfold State.mapShot; split
  · exact h
  · exact h.setSbm _ rfl

theorem State.Keeps.mapObj {r s : State} (h : r.Keeps s) (i : Nat) (k : Pict) (f : Obj → Obj) : r.Keeps (s.mapObj i k f) :=
  h.mapShot _ _

theorem State.Keeps.place {r s : State} (h : r.Keeps s) (i : Nat) (k : Pict) (hd : Hold) : r.Keeps (s.place i k hd) :=
  h.mapObj _ _ _

theorem State.Keeps.removeObj {r s : State} (h : r.Keeps s) (i : Nat) (k : Pict) : r.Keeps (s.removeObj i k) := by
  unfold State.removeObj; split
  · exact h
  · exact State.Keeps.announceSpace (State.Keeps.setSbm (h.mapShot _ _) _ (by exact rfl))

theorem State.Keeps.checkRetire {r s : State} (h : r.Keeps s) (i : Nat) : r.Keeps (s.checkRetire i) := by
  unfold State.checkRetire
  split
  · exact h
  split
  · exact h
  split
  · exact State.Keeps.announceRetirement (State.Keeps.raise (h.setSbm _ (by exact rfl)) _ _)
  · exact h

theorem State.Keeps.checkRetireShot {r s : State} (h : r.Keeps s) (n : Nat) : r.Keeps (s.checkRetireShot n) := by
  unfold State.checkRetireShot; split
  · exact h
  · exact h.checkRetire _

theorem State.Keeps.setHolds {r s : State} (h : r.Keeps s) (i : Nat) (k : Pict) (f : HoldSet → HoldSet) :
    r.Keeps (s.setHolds i k f) := by
  unfold State.setHolds; split
  · exact h
  · split
    · exact (h.removeObj i k).checkRetire i
    · exact h.mapObj i k _

theorem State.Keeps.releaseHold {r s : State} (h : r.Keeps s) (i : Nat) (k : Pict) (hd : Hold) :
    r.Keeps (s.releaseHold i k hd) := h.setHolds i k _

theorem State.Keeps.reserve {r s t : State} (h : r.Keeps s) {i : Nat} {k : Pict} {size : Nat} {p : Producer}
    {sc : Option Scale} {ring : Bool} {d : PictData} (ht : s.reserve i k size p sc ring d = some t) : r.Keeps t := by
  unfold State.reserve at ht
  dsimp only at ht
  split at ht
  · rw [Option.some.injEq] at ht
    exact ht ▸ State.Keeps.mapShot (h.setSbm _ (by exact rfl)) _ _
  · cases ht

/-! ### Develop.lean -/

theorem State.Keeps.jobsGone {s₀ s : State} (h : s₀.Keeps s) (n : Nat) : s₀.Keeps (s.jobsGone n) := by
  unfold State.jobsGone
  repeat' (first | with_reducible assumption | with_reducible apply State.Keeps.checkRetire | with_reducible apply State.Keeps.releaseHold | dsimp only | split)

theorem State.Keeps.dropJobs {s₀ s : State} (h : s₀.Keeps s) (p : Job → Bool) (n : Nat) : s₀.Keeps (s.dropJobs p n) := by
  unfold State.dropJobs
  repeat' (first | with_reducible assumption | with_reducible apply State.Keeps.jobsGone | with_reducible apply State.Keeps.setDev | exact rfl)

theorem State.Keeps.dropOrphanJobs {s₀ s : State} (h : s₀.Keeps s) (n : Nat) : s₀.Keeps (s.dropOrphanJobs n) := by
  unfold State.dropOrphanJobs
  repeat' (first | with_reducible assumption | with_reducible apply State.Keeps.dropJobs | dsimp only | split)

theorem State.Keeps.setEngine {s₀ s : State} (h : s₀.Keeps s) (e : Engine) : s₀.Keeps (s.setEngine e) := by
  unfold State.setEngine
  repeat' (first | with_reducible assumption | with_reducible apply State.Keeps.setDev | exact rfl)

theorem State.Keeps.startPass {s₀ s : State} (h : s₀.Keeps s) (sh : Shot) (j : Job) : s₀.Keeps (s.startPass sh j) := by
  unfold State.startPass
  repeat' (first | with_reducible assumption | with_reducible apply State.Keeps.mapShot)

theorem State.Keeps.takeRendition {r s : State} (h : r.Keeps s) (sh : Shot) (j : Job) : r.Keeps (s.takeRendition sh j) := by
  unfold State.takeRendition
  dsimp only
  split
  · exact h.setEngine _
  · rename_i s1 e
    exact State.Keeps.setEngine (State.Keeps.startPass (State.Keeps.mapShot (h.reserve e) _ _) _ _) _

theorem State.Keeps.engineLook {s₀ s : State} (h : s₀.Keeps s) : s₀.Keeps s.engineLook := by
  unfold State.engineLook
  repeat' (first | with_reducible assumption | with_reducible apply State.Keeps.setEngine | with_reducible apply State.Keeps.startPass | with_reducible apply State.Keeps.takeRendition | dsimp only | split)

theorem State.Keeps.lookIf {s₀ s : State} (h : s₀.Keeps s) (event : Bool) : s₀.Keeps (s.lookIf event) := by
  unfold State.lookIf
  split
  · exact h.notify _
  · exact h

/-! ### Cards.lean -/

theorem State.Keeps.recallGone {s₀ s : State} (h : s₀.Keeps s) (n : Nat) (k : Pict) : s₀.Keeps (s.recallGone n k) := by
  unfold State.recallGone
  repeat' (first | with_reducible assumption | with_reducible apply State.Keeps.dropOrphanJobs | with_reducible apply State.Keeps.checkRetireShot | dsimp only | split)

theorem State.Keeps.withdrawIn {r s : State} (h : r.Keeps s) (m : Nat) (sl : Slot) : r.Keeps (s.withdrawIn m sl) := by
  unfold State.withdrawIn
  extract_lets c gone s1
  have h1 : r.Keeps s1 := h.setSlot _ _ (by exact rfl)
  split
  · exact h1
  · exact State.Keeps.foldl _ _ (h1.notify _) fun t x ht => ht.recallGone _ _

theorem State.Keeps.withdraw {s₀ s : State} (h : s₀.Keeps s) (m : Nat) : s₀.Keeps (s.withdraw m) := by
  unfold State.withdraw
  repeat' (first | with_reducible assumption | with_reducible apply State.Keeps.withdrawIn)

/-! ### Tether.lean -/

theorem State.Keeps.pushTx {s₀ s : State} (h : s₀.Keeps s) (f : RelayFrame) : s₀.Keeps (s.pushTx f) := by
  unfold State.pushTx
  repeat' (first | with_reducible assumption | with_reducible apply State.Keeps.setTet | exact rfl | dsimp only | split)

theorem State.Keeps.returnTransfer {s₀ s : State} (h : s₀.Keeps s) (cancel : Bool) : s₀.Keeps (s.returnTransfer cancel) := by
  unfold State.returnTransfer
  repeat' (first | with_reducible assumption | with_reducible apply State.Keeps.pushTx | with_reducible apply State.Keeps.setTet | with_reducible apply State.Keeps.notify | exact rfl | dsimp only | split)

theorem State.Keeps.cancelTransfer {s₀ s : State} (h : s₀.Keeps s) : s₀.Keeps s.cancelTransfer := by
  unfold State.cancelTransfer
  repeat' (first | with_reducible assumption | with_reducible apply State.Keeps.pushTx | with_reducible apply State.Keeps.setTet | with_reducible apply State.Keeps.notify | exact rfl | dsimp only | split)

theorem State.Keeps.mapItem {s₀ s : State} (h : s₀.Keeps s) (m : Nat) (f : Item → Item) : s₀.Keeps (s.mapItem m f) := by
  unfold State.mapItem
  repeat' (first | with_reducible assumption | with_reducible apply State.Keeps.setTet | exact rfl)

theorem State.Keeps.placeTether {s₀ s : State} (h : s₀.Keeps s) (n : Nat) (k : Pict) : s₀.Keeps (s.placeTether n k) := by
  unfold State.placeTether
  repeat' (first | with_reducible assumption | with_reducible apply State.Keeps.place | dsimp only | split)

theorem State.Keeps.itemReady {s₀ s : State} (h : s₀.Keeps s) (n : Nat) (k : Pict) : s₀.Keeps (s.itemReady n k) := by
  unfold State.itemReady
  repeat' (first | with_reducible assumption | with_reducible apply State.Keeps.placeTether | with_reducible apply State.Keeps.notify)

theorem State.Keeps.itemGone {s₀ s : State} (h : s₀.Keeps s) (x : Item) : s₀.Keeps (s.itemGone x) := by
  unfold State.itemGone
  repeat' (first | with_reducible assumption | with_reducible apply State.Keeps.withdraw | with_reducible apply State.Keeps.checkRetireShot | with_reducible apply State.Keeps.releaseHold | dsimp only | split)

theorem State.Keeps.removeItem {s₀ s : State} (h : s₀.Keeps s) (x : Item) : s₀.Keeps (s.removeItem x) := by
  unfold State.removeItem
  repeat' (first | with_reducible assumption | with_reducible apply State.Keeps.cancelTransfer | with_reducible apply State.Keeps.itemGone | with_reducible apply State.Keeps.setTet | exact rfl | dsimp only | split)

theorem State.Keeps.itemsReady {s₀ s : State} (h : s₀.Keeps s) (n : Nat) (k : Pict) : s₀.Keeps (s.itemsReady n k) := by
  unfold State.itemsReady
  repeat' (first | with_reducible assumption | with_reducible apply State.Keeps.itemReady | with_reducible apply State.Keeps.setTet | exact rfl | dsimp only | split)

theorem State.Keeps.startTransfer {s₀ s : State} (h : s₀.Keeps s) (x : Item) : s₀.Keeps (s.startTransfer x) := by
  unfold State.startTransfer
  repeat' (first | with_reducible assumption | with_reducible apply State.Keeps.pushTx | with_reducible apply State.Keeps.mapItem | with_reducible apply State.Keeps.setTet | with_reducible apply State.Keeps.notify | exact rfl)

theorem State.Keeps.linkAsk {s₀ s : State} (h : s₀.Keeps s) : s₀.Keeps s.linkAsk := by
  unfold State.linkAsk
  repeat' (first | with_reducible assumption | with_reducible apply State.Keeps.startTransfer | dsimp only | split)

theorem State.Keeps.preempt {s₀ s : State} (h : s₀.Keeps s) : s₀.Keeps s.preempt := by
  unfold State.preempt
  repeat' (first | with_reducible assumption | with_reducible apply State.Keeps.returnTransfer | dsimp only | split)

theorem State.Keeps.expireItem {s₀ s : State} (h : s₀.Keeps s) (m : Nat) : s₀.Keeps (s.expireItem m) := by
  unfold State.expireItem
  repeat' (first | with_reducible assumption | with_reducible apply State.Keeps.mapItem | with_reducible apply State.Keeps.removeItem | with_reducible apply State.Keeps.setTet | with_reducible apply State.Keeps.raise | exact rfl | dsimp only | split)

/-! ### Recalls.lean -/

theorem State.Keeps.unqueueRecall {s₀ s : State} (h : s₀.Keeps s) (sl : Slot) (r : Recall) : s₀.Keeps (s.unqueueRecall sl r) := by
  unfold State.unqueueRecall
  repeat' (first | with_reducible assumption | with_reducible apply State.Keeps.setSlot | exact rfl)

theorem State.Keeps.reinstate {s₀ s : State} (h : s₀.Keeps s) (i n : Nat) (f : ShotFields) : s₀.Keeps (s.reinstate i n f) := by
  unfold State.reinstate
  repeat' (first | with_reducible assumption | with_reducible apply State.Keeps.setTet | with_reducible apply State.Keeps.setSbm | exact rfl)

theorem State.Keeps.reserveRecall {r s t : State} (h : r.Keeps s) {sl : Slot} {x : Recall} {i : Nat}
    (ht : s.reserveRecall sl x i = some t) : r.Keeps t := by
  unfold State.reserveRecall at ht
  obtain ⟨s1, e, rfl⟩ := Option.map_eq_some_iff.mp ht
  exact State.Keeps.lookIf (State.Keeps.setSlot (h.reserve e) _ _ (by exact rfl)) _

theorem State.Keeps.serveRecall {r s : State} (h : r.Keeps s) (sl : Slot) (x : Recall) (i : Nat) (sh : Shot) (o : Obj) :
    r.Keeps (s.serveRecall sl x i sh o) := by
  unfold State.serveRecall
  extract_lets s1 s2
  have h1 : r.Keeps s1 := by
    show r.Keeps (if _ then _ else _)
    split
    · exact h.place _ _ _
    · exact h
  have h2 : r.Keeps s2 := by
    show r.Keeps (if _ then _ else _)
    split
    · exact h1.itemsReady _ _
    · exact h1
  exact State.Keeps.recallGone (State.Keeps.unqueueRecall (h2.raise _ _) _ _) _ _

theorem State.Keeps.askOnce {r s : State} (h : r.Keeps s) (sl : Slot) (x : Recall) : r.Keeps (s.askOnce sl x).1 := by
  unfold State.askOnce
  split
  · rename_i i sh hc
    split
    · exact h.serveRecall _ _ _ _ _
    · cases e : s.reserveRecall sl x i with
      | none => exact h
      | some t => exact h.reserveRecall e
  · split
    · exact h
    · rename_i i hf
      split
      · cases e : (s.reinstate i x.shot x.fields).reserveRecall sl x i with
        | none => exact h
        | some t => exact State.Keeps.reserveRecall (h.reinstate _ _ _) e
      · exact h

theorem State.Keeps.askHeads {r s : State} (h : r.Keeps s) (sl : Slot) (k : Nat) : r.Keeps (s.askHeads sl k) := by
  induction k generalizing s with
  | zero => exact h
  | succ k ih =>
    unfold State.askHeads
    split
    · exact h
    · rename_i x rs e
      dsimp only
      split
      · have h1 := h.askOnce sl x
        split
        · exact ih h1
        · exact h1
      · exact h

theorem State.Keeps.askHead {s₀ s : State} (h : s₀.Keeps s) (sl : Slot) : s₀.Keeps (s.askHead sl) := by
  unfold State.askHead
  repeat' (first | with_reducible assumption | with_reducible apply State.Keeps.askHeads | dsimp only | split)

theorem CardSlot.beginRead_kept (c : CardSlot) : c.beginRead.kept = c.kept := by unfold CardSlot.beginRead; split <;> rfl

theorem State.Keeps.recallServe {r s : State} (h : r.Keeps s) (sl : Slot) : r.Keeps (s.recallServe sl) := by
  unfold State.recallServe
  dsimp only
  split
  · exact h.setSlot _ _ (CardSlot.beginRead_kept _)
  · exact h

theorem State.Keeps.recallAsk {s₀ s : State} (h : s₀.Keeps s) (sl : Slot) : s₀.Keeps (s.recallAsk sl) := by
  unfold State.recallAsk
  repeat' (first | with_reducible assumption | with_reducible apply State.Keeps.askHead | with_reducible apply State.Keeps.recallServe)

/-! ### Focus.lean -/

theorem State.Keeps.refreshFocus {s₀ s : State} (h : s₀.Keeps s) : s₀.Keeps s.refreshFocus := by
  unfold State.refreshFocus
  repeat' (first | with_reducible assumption | with_reducible apply State.Keeps.setFoc | exact rfl | dsimp only | split)

theorem State.Keeps.gateRefresh {s₀ s : State} (h : s₀.Keeps s) : s₀.Keeps s.gateRefresh := by
  unfold State.gateRefresh
  repeat' (first | with_reducible assumption | with_reducible apply State.Keeps.setFoc | with_reducible apply State.Keeps.notify | exact rfl | dsimp only | split)

/-! ### Capture.lean -/

theorem State.Keeps.startSequence {s₀ s : State} (h : s₀.Keeps s) (d : DriveState) : s₀.Keeps (s.startSequence d) := by
  unfold State.startSequence
  repeat' (first | with_reducible assumption | with_reducible apply State.Keeps.setCap | with_reducible apply State.Keeps.notify | exact rfl)

theorem State.Keeps.startShooting {s₀ s : State} (h : s₀.Keeps s) (d : DriveState) : s₀.Keeps (s.startShooting d) := by
  unfold State.startShooting
  repeat' (first | with_reducible assumption | with_reducible apply State.Keeps.startSequence | with_reducible apply State.Keeps.setCap | exact rfl)

theorem State.Keeps.toIdleDrive {s₀ s : State} (h : s₀.Keeps s) : s₀.Keeps s.toIdleDrive := by
  unfold State.toIdleDrive
  repeat' (first | with_reducible assumption | with_reducible apply State.Keeps.setCap | exact rfl)

theorem State.Keeps.endStall {s₀ s : State} (h : s₀.Keeps s) (f : Frame) (started : Bool) : s₀.Keeps (s.endStall f started) := by
  unfold State.endStall
  repeat' (first | with_reducible assumption | with_reducible apply State.Keeps.setCap | with_reducible apply State.Keeps.raise | exact rfl | dsimp only | split)

theorem State.Keeps.dropFrame {s₀ s : State} (h : s₀.Keeps s) : s₀.Keeps s.dropFrame := by
  unfold State.dropFrame
  repeat' (first | with_reducible assumption | with_reducible apply State.Keeps.endStall | with_reducible apply State.Keeps.setCap | with_reducible apply State.Keeps.setFoc | exact rfl | dsimp only | split)

theorem State.Keeps.stopBurst {s₀ s : State} (h : s₀.Keeps s) : s₀.Keeps s.stopBurst := by
  unfold State.stopBurst
  repeat' (first | with_reducible assumption | with_reducible apply State.Keeps.dropFrame | with_reducible apply State.Keeps.raise)

theorem State.Keeps.freeRing {s₀ s : State} (h : s₀.Keeps s) (i : Nat) : s₀.Keeps (s.freeRing i) := by
  unfold State.freeRing
  repeat' (first | with_reducible assumption | with_reducible apply State.Keeps.setSbm | with_reducible apply State.Keeps.removeObj | exact rfl | dsimp only | split)

theorem State.Keeps.discardRing {s₀ s : State} (h : s₀.Keeps s) (i : Nat) : s₀.Keeps (s.discardRing i) := by
  unfold State.discardRing
  repeat' (first | with_reducible assumption | with_reducible apply State.Keeps.freeRing | with_reducible apply State.Keeps.releaseHold | dsimp only | split)

theorem State.Keeps.discardWholeRing {s₀ s : State} (h : s₀.Keeps s) : s₀.Keeps s.discardWholeRing := by
  unfold State.discardWholeRing
  repeat' (first | with_reducible assumption | with_reducible apply State.Keeps.discardRing | with_reducible apply State.Keeps.setCap | with_reducible refine State.Keeps.foldl _ _ ?_ (fun t x h => ?_) | exact rfl)

theorem State.Keeps.leaveIdle {r s : State} (h : r.Keeps s) : r.Keeps s.leaveIdle := by
  unfold State.leaveIdle
  split
  · split <;> exact h.startShooting _
  · split
    · exact h.startSequence _
    · exact h

/-- Out of RING the drive state's reaction keeps it; the full-press in RING commits shots. -/
theorem State.Keeps.driveOnce {r s : State} (h : r.Keeps s) (hd : s.cap.drive ≠ .ring) : r.Keeps s.driveOnce := by
  unfold State.driveOnce
  split
  · exact h.leaveIdle
  · exact absurd (by assumption) hd
  · split
    · exact h.dropFrame.toIdleDrive.leaveIdle
    · exact h
  · split
    · exact h
    · exact h.toIdleDrive.leaveIdle
  · split
    · exact h
    · split
      · exact h.stopBurst.startSequence _
      · exact h.stopBurst.toIdleDrive.leaveIdle

theorem State.Keeps.driveReact {r s : State} (h : r.Keeps s) (hd : s.cap.drive ≠ .ring) : r.Keeps s.driveReact := by
  unfold State.driveReact
  split
  · exact h.driveOnce hd
  · exact h

theorem State.Keeps.openEntry {r s : State} (h : r.Keeps s) (q : Sequence) (i : Nat) (sh : Shot) (ring : Bool) :
    r.Keeps (s.openEntry q i sh ring) := by
  have h1 : r.Keeps (s.setSbm (s.sbm.put i (some sh))) := h.setSbm _ (by exact rfl)
  unfold State.openEntry
  dsimp only
  cases e : (s.setSbm (s.sbm.put i (some sh))).reserve i .raw q.size .cap none ring (.sensor q.depth q.crop.width []) with
  | none => exact h1
  | some t => exact h1.reserve e

theorem State.Keeps.expose {s₀ s : State} (h : s₀.Keeps s) (q : Sequence) (i : Nat) : s₀.Keeps (s.expose q i) := by
  unfold State.expose
  repeat' (first | with_reducible assumption | with_reducible apply State.Keeps.setCap | exact rfl)

theorem State.Keeps.afterStart {r s : State} (h : r.Keeps s) (q : Sequence) (n : Nat) (flash : Flash) (hd : s.cap.drive ≠ .ring) :
    r.Keeps (s.afterStart q n flash) := by
  unfold State.afterStart
  extract_lets c c1
  split
  · split
    · exact h.setCap _ (by exact rfl)
    · exact State.Keeps.leaveIdle (State.Keeps.toIdleDrive (h.setCap _ (by exact rfl)))
  · exact State.Keeps.driveReact (h.setCap _ (by exact rfl)) hd

theorem State.Keeps.reportFlash {s₀ s : State} (h : s₀.Keeps s) (n pattern : Nat) (flash : Flash) : s₀.Keeps (s.reportFlash n pattern flash) := by
  unfold State.reportFlash
  repeat' (first | with_reducible assumption | with_reducible apply State.Keeps.raise | dsimp only | split)

theorem State.reserve_cap {s t : State} {i : Nat} {k : Pict} {size : Nat} {p : Producer}
    {sc : Option Scale} {ring : Bool} {d : PictData} (ht : s.reserve i k size p sc ring d = some t) : t.cap = s.cap := by
  unfold State.reserve at ht
  dsimp only at ht
  split at ht
  · rw [Option.some.injEq] at ht
    rw [← ht]; simp
  · cases ht

theorem State.openEntry_cap (s : State) (q : Sequence) (i : Nat) (sh : Shot) (ring : Bool) :
    (s.openEntry q i sh ring).cap = s.cap := by
  unfold State.openEntry
  dsimp only
  cases e : (s.setSbm (s.sbm.put i (some sh))).reserve i .raw q.size .cap none ring (.sensor q.depth q.crop.width []) with
  | none => rfl
  | some t => exact (State.reserve_cap e).trans rfl

theorem State.endStall_drive (s : State) (f : Frame) (b : Bool) : (s.endStall f b).cap.drive = s.cap.drive := by
  unfold State.endStall; split
  · rfl
  · dsimp only; rw [State.raise_cap]; rfl

theorem State.reportFlash_cap (s : State) (n p : Nat) (f : Flash) : (s.reportFlash n p f).cap = s.cap := by
  unfold State.reportFlash; split <;> simp

theorem State.Keeps.startCommitted {r s : State} (h : r.Keeps s) (q : Sequence) (f : Frame) (flash : Flash) (i n : Nat)
    (hd : s.cap.drive ≠ .ring) : r.Keeps (s.startCommitted q f flash i n) := by
  unfold State.startCommitted
  extract_lets sh s1 s2 s3
  have h1 : r.Keeps s1 := by
    refine State.Keeps.openEntry (State.Keeps.setSbm (h.endStall _ _) _ ?_) _ _ _ _
    rw [← State.endStall_sbm s f true]
    rfl
  have h3 : r.Keeps s3 := State.Keeps.reportFlash (State.Keeps.raise (h1.expose _ _) _ _) _ _ _
  refine State.Keeps.afterStart (h3.setFoc _ (by exact rfl)) _ _ _ ?_
  have e : s3.cap.drive = s.cap.drive := by
    rw [State.reportFlash_cap]
    show (State.raise _ _ _).cap.drive = _
    rw [State.raise_cap]
    show s1.cap.drive = _
    show (State.openEntry _ _ _ _ _).cap.drive = _
    rw [State.openEntry_cap]
    exact State.endStall_drive _ _ _
  exact fun x => hd (e ▸ x)

theorem State.Keeps.stall {s₀ s : State} (h : s₀.Keeps s) (f : Frame) (l : Lack) : s₀.Keeps (s.stall f l) := by
  unfold State.stall
  repeat' (first | with_reducible assumption | with_reducible apply State.Keeps.setCap | with_reducible apply State.Keeps.raise | exact rfl | dsimp only | split)

theorem State.Keeps.openCommitted {r s : State} (h : r.Keeps s) (q : Sequence) (f : Frame) (flash : Flash)
    (hd : s.cap.drive ≠ .ring) : r.Keeps (s.openCommitted q f flash) := by
  unfold State.openCommitted
  split
  · exact h.stall _ _
  · split
    · exact h.startCommitted _ _ _ _ _ hd
    · exact h

theorem State.Keeps.evaluateCommitted {r s : State} (h : r.Keeps s) (q : Sequence) (f : Frame) (hd : s.cap.drive ≠ .ring) :
    r.Keeps (s.evaluateCommitted q f) := by
  unfold State.evaluateCommitted
  split
  · exact h
  · split
    · exact h.setCap _ (by exact rfl)
    · exact h.openCommitted _ _ _ hd

theorem State.Keeps.startRing {s₀ s : State} (h : s₀.Keeps s) (q : Sequence) (i : Nat) : s₀.Keeps (s.startRing q i) := by
  unfold State.startRing
  repeat' (first | with_reducible assumption | with_reducible apply State.Keeps.openEntry | with_reducible apply State.Keeps.expose | with_reducible apply State.Keeps.setCap | exact rfl)

theorem State.Keeps.skipRing {s₀ s : State} (h : s₀.Keeps s) (q : Sequence) (f : Frame) : s₀.Keeps (s.skipRing q f) := by
  unfold State.skipRing
  repeat' (first | with_reducible assumption | with_reducible apply State.Keeps.setCap | exact rfl)

theorem State.Keeps.openRing {s₀ s : State} (h : s₀.Keeps s) (q : Sequence) (f : Frame) : s₀.Keeps (s.openRing q f) := by
  unfold State.openRing
  repeat' (first | with_reducible assumption | with_reducible apply State.Keeps.startRing | with_reducible apply State.Keeps.skipRing | dsimp only | split)

theorem State.Keeps.replaceRing {s₀ s : State} (h : s₀.Keeps s) (q : Sequence) (f : Frame) : s₀.Keeps (s.replaceRing q f) := by
  unfold State.replaceRing
  repeat' (first | with_reducible assumption | with_reducible apply State.Keeps.discardRing | with_reducible apply State.Keeps.skipRing | with_reducible apply State.Keeps.openRing | with_reducible apply State.Keeps.setCap | exact rfl | dsimp only | split)

theorem State.Keeps.evaluateRing {s₀ s : State} (h : s₀.Keeps s) (q : Sequence) (f : Frame) : s₀.Keeps (s.evaluateRing q f) := by
  unfold State.evaluateRing
  repeat' (first | with_reducible assumption | with_reducible apply State.Keeps.openRing | with_reducible apply State.Keeps.replaceRing | dsimp only | split)

theorem State.Keeps.wrapPattern {s₀ s : State} (h : s₀.Keeps s) : s₀.Keeps s.wrapPattern := by
  unfold State.wrapPattern
  repeat' (first | with_reducible assumption | with_reducible apply State.Keeps.setCap | exact rfl)

theorem State.Keeps.evaluate {r s : State} (h : r.Keeps s) : r.Keeps s.evaluate := by
  unfold State.evaluate
  split
  · split
    · exact h
    · dsimp only
      split
      · exact h.wrapPattern
      · split
        · exact h.wrapPattern.evaluateRing _ _
        · rename_i e
          exact h.wrapPattern.evaluateCommitted _ _ (by show s.cap.drive ≠ _; rw [e]; simp)
        · rename_i e
          exact h.wrapPattern.evaluateCommitted _ _ (by show s.cap.drive ≠ _; rw [e]; simp)
        · exact h.wrapPattern
        · exact h.wrapPattern
  · exact h

/-! ### Settle.lean -/

theorem State.Keeps.refresh {r s : State} (h : r.Keeps s) : r.Keeps s.refresh := h.refreshFocus.gateRefresh

theorem State.Keeps.handle {r s : State} (h : r.Keeps s) (n : Notice) : r.Keeps (s.handle n) := by
  cases n with
  | evaluate => exact h.evaluate
  | engineLook => exact h.engineLook
  | recallAsk sl => exact h.recallAsk sl
  | linkAsk => exact h.linkAsk
  | preempt => exact h.preempt
  | expire m => exact h.expireItem m

theorem State.Keeps.drain {r s : State} (h : r.Keeps s) (fuel : Nat) : r.Keeps (s.drain fuel) := by
  induction fuel generalizing s with
  | zero => exact h.refresh
  | succ k ih =>
    have h1 := h.refresh
    unfold State.drain
    dsimp only
    split
    · exact h1
    · exact ih ((h1.setNotices _).handle _)

/-- The end of a step leaves the kept part alone. -/
theorem State.settle_kept (s : State) : s.settle.kept = s.kept := (State.Keeps.refl s).drain _

end Sys2Proof.Machine
end

