-- ==== Sys2Proof/Laws/PerInstr.lean ====
section
/-! SUPPORT. For every constructor of `Instr`: what a well-formed host command is written as fits a frame of the command
link (R219, R221, R233); an event is written as none. -/

set_option linter.unusedSimpArgs false

namespace Sys2Proof.Laws
open Sys2Proof Sys2Proof.Machine

theorem le_length (k n : Nat) : (le k n).length = k := by
  induction k generalizing n with
  | zero => rfl
  | succ k ih => simp [le, ih]

theorem putEnum_length {α : Type} [BEq α] (set : List α) (a : Option α) : (putEnum set a).length = 1 := by
  cases a <;> simp [putEnum, code, le_length]

theorem putKind_length (k : Option ReportKind) : (putKind k).length = 1 := by
  cases k <;> simp [putKind, le_length]

theorem putOpt_length (k : Nat) (a : Option (Option Nat)) : (putOpt k a).length ≤ k + 1 := by
  rcases a with _ | _ | _ <;> simp [putOpt, opt, le_length]

theorem addr_length (a : Addr) : (addr a).length = 6 := by simp [addr, be, le_length]

theorem flatMap_length {α : Type} (f : α → List Byte) (n : Nat) (l : List α) (h : ∀ a, (f a).length = n) :
    (l.flatMap f).length = l.length * n := by
  induction l with
  | nil => simp
  | cons a l ih => simp [h, ih, Nat.succ_mul, Nat.add_comm]

theorem listOf_length {α : Type} (f : α → List Byte) (n : Nat) (l : List α) (h : ∀ a, (f a).length = n) :
    (listOf 1 f l).length = 1 + l.length * n := by
  simp [listOf, le_length, flatMap_length f n l h]

/-- A well-formed host command is written with a KIND below 0x80, a TAG of one byte and a BODY a frame can carry. -/
def FitsFrame.Statement (i : Instr) : Prop :=
  i.wf = true → ∀ p, Command.parts i = some p → p.1 < 0x80 ∧ p.2.1 < 256 ∧ p.2.2.length ≤ 4096

/-- A well-formed command meets its check. -/
theorem wf_eq {i : Instr} {b : Bool} (h : i.wf = true) (e : i.wf = b) : b = true := e ▸ h

/-- The statement from the parts a command is written as. -/
theorem FitsFrame.of_parts {i : Instr} {p : Nat × Nat × List Byte} (e : Command.parts i = some p)
    (h : i.wf = true → p.1 < 0x80 ∧ p.2.1 < 256 ∧ p.2.2.length ≤ 4096) : FitsFrame.Statement i :=
  fun hw q hq => by rw [e] at hq; cases hq; exact h hw

/-- An event is written as no frame. -/
theorem FitsFrame.of_event {i : Instr} (e : Command.parts i = none) : FitsFrame.Statement i :=
  fun _ _ h => by rw [e] at h; cases h

theorem FitsFrame.identify (tag : Nat) : FitsFrame.Statement (.identify tag) :=
  FitsFrame.of_parts rfl fun hw => by
    have hw := wf_eq hw (b := fits 1 tag) rfl
    simp [fits] at hw
    simp [le_length, putEnum_length, putKind_length, addr_length, putCapture, putSync, putAf, putLens, putLook, putTether, putRule]
    omega

theorem FitsFrame.getStatus (tag : Nat) (parts : List (Option StatusPart)) : FitsFrame.Statement (.getStatus tag parts) :=
  FitsFrame.of_parts rfl fun hw => by
    have h1 := listOf_length (putEnum StatusPart.all) 1 parts fun _ => putEnum_length _ _
    have hw := wf_eq hw (b := fits 1 tag && parts.length ≤ 9) rfl
    simp [fits] at hw
    simp [le_length, putEnum_length, putKind_length, addr_length, putCapture, putSync, putAf, putLens, putLook, putTether, putRule]
    omega

theorem FitsFrame.readReports (tag count : Nat) (sel : Option LineSel) : FitsFrame.Statement (.readReports tag count sel) :=
  FitsFrame.of_parts rfl fun hw => by
    have hw := wf_eq hw (b := fits 1 tag && fits 1 count) rfl
    simp [fits] at hw
    simp [le_length, putEnum_length, putKind_length, addr_length, putCapture, putSync, putAf, putLens, putLook, putTether, putRule]
    omega

theorem FitsFrame.setRoutes (tag : Nat) (pairs : List (Option ReportKind × Option Route)) : FitsFrame.Statement (.setRoutes tag pairs) :=
  FitsFrame.of_parts rfl fun hw => by
    have h1 := listOf_length (fun p : Option ReportKind × Option Route => putKind p.1 ++ putEnum Route.all p.2) 2 pairs
      fun _ => by simp [putKind_length, putEnum_length]
    have hw := wf_eq hw (b := fits 1 tag && 1 ≤ pairs.length && pairs.length ≤ 28) rfl
    simp [fits] at hw
    simp [le_length, putEnum_length, putKind_length, addr_length, putCapture, putSync, putAf, putLens, putLook, putTether, putRule]
    omega

theorem FitsFrame.reset (tag : Nat) : FitsFrame.Statement (.reset tag) :=
  FitsFrame.of_parts rfl fun hw => by
    have hw := wf_eq hw (b := fits 1 tag) rfl
    simp [fits] at hw
    simp [le_length, putEnum_length, putKind_length, addr_length, putCapture, putSync, putAf, putLens, putLook, putTether, putRule]
    omega

theorem FitsFrame.setTime (tag time : Nat) : FitsFrame.Statement (.setTime tag time) :=
  FitsFrame.of_parts rfl fun hw => by
    have hw := wf_eq hw (b := fits 1 tag && fits 8 time) rfl
    simp [fits] at hw
    simp [le_length, putEnum_length, putKind_length, addr_length, putCapture, putSync, putAf, putLens, putLook, putTether, putRule]
    omega

theorem FitsFrame.setPower (tag : Nat) (target : Option PowerState) : FitsFrame.Statement (.setPower tag target) :=
  FitsFrame.of_parts rfl fun hw => by
    have hw := wf_eq hw (b := fits 1 tag) rfl
    simp [fits] at hw
    simp [le_length, putEnum_length, putKind_length, addr_length, putCapture, putSync, putAf, putLens, putLook, putTether, putRule]
    omega

theorem FitsFrame.setThresholds (tag low critical : Nat) : FitsFrame.Statement (.setThresholds tag low critical) :=
  FitsFrame.of_parts rfl fun hw => by
    have hw := wf_eq hw (b := fits 1 tag && fits 2 low && fits 2 critical) rfl
    simp [fits] at hw
    simp [le_length, putEnum_length, putKind_length, addr_length, putCapture, putSync, putAf, putLens, putLook, putTether, putRule]
    omega

theorem FitsFrame.saveSettings (tag : Nat) : FitsFrame.Statement (.saveSettings tag) :=
  FitsFrame.of_parts rfl fun hw => by
    have hw := wf_eq hw (b := fits 1 tag) rfl
    simp [fits] at hw
    simp [le_length, putEnum_length, putKind_length, addr_length, putCapture, putSync, putAf, putLens, putLook, putTether, putRule]
    omega

theorem FitsFrame.setCapture (tag : Nat) (args : CaptureArgs) : FitsFrame.Statement (.setCapture tag args) :=
  FitsFrame.of_parts rfl fun hw => by
    have hw := wf_eq hw (b := fits 1 tag && args.wf) rfl
    simp [fits, CaptureArgs.wf] at hw
    simp [le_length, putEnum_length, putKind_length, addr_length, putCapture, putSync, putAf, putLens, putLook, putTether, putRule]
    omega

theorem FitsFrame.setSync (tag : Nat) (args : SyncArgs) : FitsFrame.Statement (.setSync tag args) :=
  FitsFrame.of_parts rfl fun hw => by
    have hw := wf_eq hw (b := fits 1 tag && args.wf) rfl
    simp [fits, SyncArgs.wf] at hw
    simp [le_length, putEnum_length, putKind_length, addr_length, putCapture, putSync, putAf, putLens, putLook, putTether, putRule]
    omega

theorem FitsFrame.release (tag : Nat) (action : Option ReleaseAction) : FitsFrame.Statement (.release tag action) :=
  FitsFrame.of_parts rfl fun hw => by
    have hw := wf_eq hw (b := fits 1 tag) rfl
    simp [fits] at hw
    simp [le_length, putEnum_length, putKind_length, addr_length, putCapture, putSync, putAf, putLens, putLook, putTether, putRule]
    omega

theorem FitsFrame.setShotBase (tag number : Nat) : FitsFrame.Statement (.setShotBase tag number) :=
  FitsFrame.of_parts rfl fun hw => by
    have hw := wf_eq hw (b := fits 1 tag && fits 4 number) rfl
    simp [fits] at hw
    simp [le_length, putEnum_length, putKind_length, addr_length, putCapture, putSync, putAf, putLens, putLook, putTether, putRule]
    omega

theorem FitsFrame.setAf (tag : Nat) (args : AfArgs) : FitsFrame.Statement (.setAf tag args) :=
  FitsFrame.of_parts rfl fun hw => by
    have hw := wf_eq hw (b := fits 1 tag && args.wf) rfl
    simp [fits, AfArgs.wf] at hw
    simp [le_length, putEnum_length, putKind_length, addr_length, putCapture, putSync, putAf, putLens, putLook, putTether, putRule]
    omega

theorem FitsFrame.setLens (tag : Nat) (args : LensArgs) : FitsFrame.Statement (.setLens tag args) :=
  FitsFrame.of_parts rfl fun hw => by
    have hw := wf_eq hw (b := fits 1 tag && args.wf) rfl
    simp [fits, LensArgs.wf] at hw
    simp [le_length, putEnum_length, putKind_length, addr_length, putCapture, putSync, putAf, putLens, putLook, putTether, putRule]
    omega

theorem FitsFrame.listShots (tag start count : Nat) : FitsFrame.Statement (.listShots tag start count) :=
  FitsFrame.of_parts rfl fun hw => by
    have hw := wf_eq hw (b := fits 1 tag && fits 4 start && fits 1 count) rfl
    simp [fits] at hw
    simp [le_length, putEnum_length, putKind_length, addr_length, putCapture, putSync, putAf, putLens, putLook, putTether, putRule]
    omega

theorem FitsFrame.readShot (tag shot : Nat) : FitsFrame.Statement (.readShot tag shot) :=
  FitsFrame.of_parts rfl fun hw => by
    have hw := wf_eq hw (b := fits 1 tag && fits 4 shot) rfl
    simp [fits] at hw
    simp [le_length, putEnum_length, putKind_length, addr_length, putCapture, putSync, putAf, putLens, putLook, putTether, putRule]
    omega

theorem FitsFrame.readThumb (tag shot offset length : Nat) : FitsFrame.Statement (.readThumb tag shot offset length) :=
  FitsFrame.of_parts rfl fun hw => by
    have hw := wf_eq hw (b := fits 1 tag && fits 4 shot && fits 4 offset && fits 2 length) rfl
    simp [fits] at hw
    simp [le_length, putEnum_length, putKind_length, addr_length, putCapture, putSync, putAf, putLens, putLook, putTether, putRule]
    omega

theorem FitsFrame.tagShot (tag shot : Nat) (urgent picked : Option TagAction) (rating : Option (Option Nat)) : FitsFrame.Statement (.tagShot tag shot urgent picked rating) :=
  FitsFrame.of_parts rfl fun hw => by
    have h1 := putOpt_length 1 rating
    have hw := wf_eq hw (b := fits 1 tag && fits 4 shot && fitsOpt 1 rating) rfl
    simp [fits] at hw
    simp [le_length, putEnum_length, putKind_length, addr_length, putCapture, putSync, putAf, putLens, putLook, putTether, putRule]
    omega

theorem FitsFrame.hold (tag shot : Nat) (kind : Option Pict) : FitsFrame.Statement (.hold tag shot kind) :=
  FitsFrame.of_parts rfl fun hw => by
    have hw := wf_eq hw (b := fits 1 tag && fits 4 shot) rfl
    simp [fits] at hw
    simp [le_length, putEnum_length, putKind_length, addr_length, putCapture, putSync, putAf, putLens, putLook, putTether, putRule]
    omega

theorem FitsFrame.unhold (tag shot : Nat) (kind : Option Pict) : FitsFrame.Statement (.unhold tag shot kind) :=
  FitsFrame.of_parts rfl fun hw => by
    have hw := wf_eq hw (b := fits 1 tag && fits 4 shot) rfl
    simp [fits] at hw
    simp [le_length, putEnum_length, putKind_length, addr_length, putCapture, putSync, putAf, putLens, putLook, putTether, putRule]
    omega

theorem FitsFrame.deleteShot (tag shot : Nat) : FitsFrame.Statement (.deleteShot tag shot) :=
  FitsFrame.of_parts rfl fun hw => by
    have hw := wf_eq hw (b := fits 1 tag && fits 4 shot) rfl
    simp [fits] at hw
    simp [le_length, putEnum_length, putKind_length, addr_length, putCapture, putSync, putAf, putLens, putLook, putTether, putRule]
    omega

theorem FitsFrame.readCardIndex (tag position count : Nat) : FitsFrame.Statement (.readCardIndex tag position count) :=
  FitsFrame.of_parts rfl fun hw => by
    have hw := wf_eq hw (b := fits 1 tag && fits 2 position && fits 1 count) rfl
    simp [fits] at hw
    simp [le_length, putEnum_length, putKind_length, addr_length, putCapture, putSync, putAf, putLens, putLook, putTether, putRule]
    omega

theorem FitsFrame.setLook (tag slot : Nat) (args : LookArgs) : FitsFrame.Statement (.setLook tag slot args) :=
  FitsFrame.of_parts rfl fun hw => by
    have hw := wf_eq hw (b := fits 1 tag && fits 1 slot && args.wf) rfl
    simp [fits, LookArgs.wf] at hw
    simp [le_length, putEnum_length, putKind_length, addr_length, putCapture, putSync, putAf, putLens, putLook, putTether, putRule]
    omega

theorem FitsFrame.setCurve (tag slot : Nat) (points : List Nat) : FitsFrame.Statement (.setCurve tag slot points) :=
  FitsFrame.of_parts rfl fun hw => by
    have h1 := listOf_length (le 2) 2 points fun _ => le_length 2 _
    have hw := wf_eq hw (b := fits 1 tag && fits 1 slot && points.length == 17 && points.all (fits 2)) rfl
    simp [fits] at hw
    simp [le_length, putEnum_length, putKind_length, addr_length, putCapture, putSync, putAf, putLens, putLook, putTether, putRule]
    omega

theorem FitsFrame.develop (tag shot look : Nat) : FitsFrame.Statement (.develop tag shot look) :=
  FitsFrame.of_parts rfl fun hw => by
    have hw := wf_eq hw (b := fits 1 tag && fits 4 shot && fits 1 look) rfl
    simp [fits] at hw
    simp [le_length, putEnum_length, putKind_length, addr_length, putCapture, putSync, putAf, putLens, putLook, putTether, putRule]
    omega

theorem FitsFrame.setCardMode (tag : Nat) (mode : Option CardMode) (content : Option CardContent) : FitsFrame.Statement (.setCardMode tag mode content) :=
  FitsFrame.of_parts rfl fun hw => by
    have hw := wf_eq hw (b := fits 1 tag) rfl
    simp [fits] at hw
    simp [le_length, putEnum_length, putKind_length, addr_length, putCapture, putSync, putAf, putLens, putLook, putTether, putRule]
    omega

theorem FitsFrame.grantWindow (tag : Nat) (slot : Option Slot) (mount start length : Nat) : FitsFrame.Statement (.grantWindow tag slot mount start length) :=
  FitsFrame.of_parts rfl fun hw => by
    have hw := wf_eq hw (b := fits 1 tag && fits 2 mount && fits 4 start && fits 4 length) rfl
    simp [fits] at hw
    simp [le_length, putEnum_length, putKind_length, addr_length, putCapture, putSync, putAf, putLens, putLook, putTether, putRule]
    omega

theorem FitsFrame.recall (tag shot : Nat) (kind : Option Pict) : FitsFrame.Statement (.recall tag shot kind) :=
  FitsFrame.of_parts rfl fun hw => by
    have hw := wf_eq hw (b := fits 1 tag && fits 4 shot) rfl
    simp [fits] at hw
    simp [le_length, putEnum_length, putKind_length, addr_length, putCapture, putSync, putAf, putLens, putLook, putTether, putRule]
    omega

theorem FitsFrame.setTether (tag : Nat) (args : TetherArgs) : FitsFrame.Statement (.setTether tag args) :=
  FitsFrame.of_parts rfl fun hw => by
    have hw := wf_eq hw (b := fits 1 tag && args.wf) rfl
    simp [fits, TetherArgs.wf] at hw
    simp [le_length, putEnum_length, putKind_length, addr_length, putCapture, putSync, putAf, putLens, putLook, putTether, putRule]
    omega

theorem FitsFrame.setSendRule (tag index : Nat) (args : RuleArgs) : FitsFrame.Statement (.setSendRule tag index args) :=
  FitsFrame.of_parts rfl fun hw => by
    have h1 := putOpt_length 4 args.offset
    have hw := wf_eq hw (b := fits 1 tag && fits 1 index && args.wf) rfl
    simp [fits, RuleArgs.wf] at hw
    simp [le_length, putEnum_length, putKind_length, addr_length, putCapture, putSync, putAf, putLens, putLook, putTether, putRule]
    omega

theorem FitsFrame.enqueue (tag shot : Nat) (kind : Option Pict) (priority : Nat) (deadline : Option (Option Nat)) (policy : Option Policy) : FitsFrame.Statement (.enqueue tag shot kind priority deadline policy) :=
  FitsFrame.of_parts rfl fun hw => by
    have h1 := putOpt_length 8 deadline
    have hw := wf_eq hw (b := fits 1 tag && fits 4 shot && fits 1 priority && fitsOpt 8 deadline) rfl
    simp [fits] at hw
    simp [le_length, putEnum_length, putKind_length, addr_length, putCapture, putSync, putAf, putLens, putLook, putTether, putRule]
    omega

theorem FitsFrame.cancelItem (tag item : Nat) : FitsFrame.Statement (.cancelItem tag item) :=
  FitsFrame.of_parts rfl fun hw => by
    have hw := wf_eq hw (b := fits 1 tag && fits 4 item) rfl
    simp [fits] at hw
    simp [le_length, putEnum_length, putKind_length, addr_length, putCapture, putSync, putAf, putLens, putLook, putTether, putRule]
    omega

theorem FitsFrame.readQueue (tag position count : Nat) : FitsFrame.Statement (.readQueue tag position count) :=
  FitsFrame.of_parts rfl fun hw => by
    have hw := wf_eq hw (b := fits 1 tag && fits 1 position && fits 1 count) rfl
    simp [fits] at hw
    simp [le_length, putEnum_length, putKind_length, addr_length, putCapture, putSync, putAf, putLens, putLook, putTether, putRule]
    omega

theorem FitsFrame.answerPull (tag pull : Nat) (answer : Option PullAnswer) (priority : Nat) : FitsFrame.Statement (.answerPull tag pull answer priority) :=
  FitsFrame.of_parts rfl fun hw => by
    have hw := wf_eq hw (b := fits 1 tag && fits 2 pull && fits 1 priority) rfl
    simp [fits] at hw
    simp [le_length, putEnum_length, putKind_length, addr_length, putCapture, putSync, putAf, putLens, putLook, putTether, putRule]
    omega

theorem FitsFrame.rejoin (tag : Nat) : FitsFrame.Statement (.rejoin tag) :=
  FitsFrame.of_parts rfl fun hw => by
    have hw := wf_eq hw (b := fits 1 tag) rfl
    simp [fits] at hw
    simp [le_length, putEnum_length, putKind_length, addr_length, putCapture, putSync, putAf, putLens, putLook, putTether, putRule]
    omega

theorem FitsFrame.chipSelectFall : FitsFrame.Statement .chipSelectFall := FitsFrame.of_event rfl

theorem FitsFrame.chipSelectRise : FitsFrame.Statement .chipSelectRise := FitsFrame.of_event rfl

theorem FitsFrame.lengthOversize (length : Nat) : FitsFrame.Statement (.lengthOversize length) := FitsFrame.of_event rfl

theorem FitsFrame.frameComplete (bytes : List Byte) : FitsFrame.Statement (.frameComplete bytes) := FitsFrame.of_event rfl

theorem FitsFrame.replyRead (reading : Nat) : FitsFrame.Statement (.replyRead reading) := FitsFrame.of_event rfl

theorem FitsFrame.resetPendingTimeout (reading : Nat) : FitsFrame.Statement (.resetPendingTimeout reading) := FitsFrame.of_event rfl

theorem FitsFrame.pinReset (reading : Nat) : FitsFrame.Statement (.pinReset reading) := FitsFrame.of_event rfl

theorem FitsFrame.brownoutHold : FitsFrame.Statement .brownoutHold := FitsFrame.of_event rfl

theorem FitsFrame.powerLoss : FitsFrame.Statement .powerLoss := FitsFrame.of_event rfl

theorem FitsFrame.supplyRecovered (reading : Nat) : FitsFrame.Statement (.supplyRecovered reading) := FitsFrame.of_event rfl

theorem FitsFrame.supplyReading (millivolts : Nat) : FitsFrame.Statement (.supplyReading millivolts) := FitsFrame.of_event rfl

theorem FitsFrame.wakeEnd : FitsFrame.Statement .wakeEnd := FitsFrame.of_event rfl

theorem FitsFrame.settingsWriteEnd (passes : Bool) : FitsFrame.Statement (.settingsWriteEnd passes) := FitsFrame.of_event rfl

theorem FitsFrame.warmupEnd : FitsFrame.Statement .warmupEnd := FitsFrame.of_event rfl

theorem FitsFrame.liveFrame (lines : List PupilLines) : FitsFrame.Statement (.liveFrame lines) := FitsFrame.of_event rfl

theorem FitsFrame.lineLevelChange (line : InputLine) (high : Bool) : FitsFrame.Statement (.lineLevelChange line high) := FitsFrame.of_event rfl

theorem FitsFrame.debounceRecognized (line : InputLine) : FitsFrame.Statement (.debounceRecognized line) := FitsFrame.of_event rfl

theorem FitsFrame.flashReadyChange (high : Bool) : FitsFrame.Statement (.flashReadyChange high) := FitsFrame.of_event rfl

theorem FitsFrame.flashWaitExpiry : FitsFrame.Statement .flashWaitExpiry := FitsFrame.of_event rfl

theorem FitsFrame.flashPulseStart : FitsFrame.Statement .flashPulseStart := FitsFrame.of_event rfl

theorem FitsFrame.flashPulseEnd : FitsFrame.Statement .flashPulseEnd := FitsFrame.of_event rfl

theorem FitsFrame.frameOpportunity : FitsFrame.Statement .frameOpportunity := FitsFrame.of_event rfl

theorem FitsFrame.exposureEnd : FitsFrame.Statement .exposureEnd := FitsFrame.of_event rfl

theorem FitsFrame.obRowsEnd (samples : List Nat) : FitsFrame.Statement (.obRowsEnd samples) := FitsFrame.of_event rfl

theorem FitsFrame.readoutEnd (quads : List Quad) (lines : List PupilLines) : FitsFrame.Statement (.readoutEnd quads lines) := FitsFrame.of_event rfl

theorem FitsFrame.lensMoving : FitsFrame.Statement .lensMoving := FitsFrame.of_event rfl

theorem FitsFrame.lensSettled (position : Nat) : FitsFrame.Statement (.lensSettled position) := FitsFrame.of_event rfl

theorem FitsFrame.lensAnswerTimeout : FitsFrame.Statement .lensAnswerTimeout := FitsFrame.of_event rfl

theorem FitsFrame.lostTimerExpiry : FitsFrame.Statement .lostTimerExpiry := FitsFrame.of_event rfl

theorem FitsFrame.focusWaitExpiry : FitsFrame.Statement .focusWaitExpiry := FitsFrame.of_event rfl

theorem FitsFrame.inFocusAgeExpiry : FitsFrame.Statement .inFocusAgeExpiry := FitsFrame.of_event rfl

theorem FitsFrame.thumbPassEnd : FitsFrame.Statement .thumbPassEnd := FitsFrame.of_event rfl

theorem FitsFrame.renderPassEnd : FitsFrame.Statement .renderPassEnd := FitsFrame.of_event rfl

theorem FitsFrame.cardInserted (slot : Slot) : FitsFrame.Statement (.cardInserted slot) := FitsFrame.of_event rfl

theorem FitsFrame.mountComplete (slot : Slot) (capacity : Nat) (writeProtected : Bool) : FitsFrame.Statement (.mountComplete slot capacity writeProtected) := FitsFrame.of_event rfl

theorem FitsFrame.mountFailed (slot : Slot) : FitsFrame.Statement (.mountFailed slot) := FitsFrame.of_event rfl

theorem FitsFrame.mountTimeout (slot : Slot) : FitsFrame.Statement (.mountTimeout slot) := FitsFrame.of_event rfl

theorem FitsFrame.cardRemoved (slot : Slot) : FitsFrame.Statement (.cardRemoved slot) := FitsFrame.of_event rfl

theorem FitsFrame.extentWriteEnd (slot : Slot) (success : Bool) : FitsFrame.Statement (.extentWriteEnd slot success) := FitsFrame.of_event rfl

theorem FitsFrame.extentReadEnd (slot : Slot) (success : Bool) (data : List Byte) : FitsFrame.Statement (.extentReadEnd slot success data) := FitsFrame.of_event rfl

theorem FitsFrame.carrierUp : FitsFrame.Statement .carrierUp := FitsFrame.of_event rfl

theorem FitsFrame.carrierDown : FitsFrame.Statement .carrierDown := FitsFrame.of_event rfl

theorem FitsFrame.relayFrameBad (frame : List Byte) : FitsFrame.Statement (.relayFrameBad frame) := FitsFrame.of_event rfl

theorem FitsFrame.relayFrameDisregarded (frame : List Byte) : FitsFrame.Statement (.relayFrameDisregarded frame) := FitsFrame.of_event rfl

theorem FitsFrame.acceptReceived (transfer start credit : Nat) : FitsFrame.Statement (.acceptReceived transfer start credit) := FitsFrame.of_event rfl

theorem FitsFrame.refuseReceived (transfer : Nat) (reason : RefuseReason) : FitsFrame.Statement (.refuseReceived transfer reason) := FitsFrame.of_event rfl

theorem FitsFrame.ackReceived (transfer index credit : Nat) : FitsFrame.Statement (.ackReceived transfer index credit) := FitsFrame.of_event rfl

theorem FitsFrame.nakReceived (transfer index : Nat) : FitsFrame.Statement (.nakReceived transfer index) := FitsFrame.of_event rfl

theorem FitsFrame.beaconReceived (counter : Nat) (status : StationStatus) : FitsFrame.Statement (.beaconReceived counter status) := FitsFrame.of_event rfl

theorem FitsFrame.pullReceived (pull : Nat) (kind : PullKind) (shot priority : Nat) : FitsFrame.Statement (.pullReceived pull kind shot priority) := FitsFrame.of_event rfl

theorem FitsFrame.beaconLoss : FitsFrame.Statement .beaconLoss := FitsFrame.of_event rfl

theorem FitsFrame.offerTimeout : FitsFrame.Statement .offerTimeout := FitsFrame.of_event rfl

theorem FitsFrame.ackTimeout : FitsFrame.Statement .ackTimeout := FitsFrame.of_event rfl

theorem FitsFrame.portFree : FitsFrame.Statement .portFree := FitsFrame.of_event rfl

theorem FitsFrame.deadlineExpiry (item : Nat) : FitsFrame.Statement (.deadlineExpiry item) := FitsFrame.of_event rfl

theorem FitsFrame.syncByte : FitsFrame.Statement .syncByte := FitsFrame.of_event rfl

end Sys2Proof.Laws
end

