-- ==== Sys2Proof/Laws/Picture.lean ====
section
/-! SUPPORT. What the packing of a raw can do: the bits of a number, and the two maps between the bits of the samples in
data order and the bits of the packed bytes. -/

namespace Sys2Proof.Machine
open Sys2Proof

/-- A number made of `n` bits is below 2^n. -/
theorem natOfBits_lt (n : Nat) (f : Nat → Bool) : natOfBits n f < 2 ^ n := by
  induction n with
  | zero => exact Nat.zero_lt_one
  | succ n ih => simp only [natOfBits, Nat.pow_succ]; split <;> omega

/-- The bits of a number made of `n` bits. -/
theorem natOfBits_testBit (n : Nat) (f : Nat → Bool) (b : Nat) : (natOfBits n f).testBit b = (decide (b < n) && f b) := by
  induction n with
  | zero => simp [natOfBits]
  | succ n ih =>
    have h := natOfBits_lt n f
    unfold natOfBits
    rcases Nat.lt_trichotomy b n with hb | rfl | hb
    · split
      · rw [Nat.add_comm, Nat.testBit_two_pow_add_gt hb, ih]; simp [hb, Nat.lt_succ_of_lt hb]
      · rw [Nat.add_zero, ih]; simp [hb, Nat.lt_succ_of_lt hb]
    · cases hf : f b
      · simpa [hf] using Nat.testBit_lt_two_pow h
      · simp [Nat.add_comm, Nat.testBit_two_pow_add_eq, Nat.testBit_lt_two_pow h]
    · have : decide (b < n + 1) = false := decide_eq_false (by omega)
      rw [this, Bool.false_and]
      refine Nat.testBit_lt_two_pow (Nat.lt_of_lt_of_le ?_ (Nat.pow_le_pow_right (by decide) hb))
      rw [Nat.pow_succ]; split <;> omega

/-- A bit of the packed bytes and the sample bit it holds lie in the same group. -/
theorem sampleBit_group (d : Depth) (p : Nat) : sampleBit d p / Config.groupBits d = p / Config.groupBits d := by
  simp only [sampleBit]
  rw [Nat.mul_add_div (Config.groupBits_pos d), Nat.div_eq_of_lt (Fin.isLt _), Nat.add_zero]

/-- A sample bit and the packed bit that holds it lie in the same group. -/
theorem packedBit_group (d : Depth) (k : Nat) : packedBit d k / Config.groupBits d = k / Config.groupBits d := by
  simp only [packedBit]
  rw [Nat.mul_add_div (Config.groupBits_pos d), Nat.div_eq_of_lt (Fin.isLt _), Nat.add_zero]

/-- The bit that holds a sample bit holds that sample bit. -/
theorem sampleBit_packedBit (d : Depth) (k : Nat) : sampleBit d (packedBit d k) = k := by
  have h : (⟨packedBit d k % Config.groupBits d, Nat.mod_lt _ (Config.groupBits_pos d)⟩ : Fin _)
      = (Config.bitOrder d).placeOf ⟨k % Config.groupBits d, Nat.mod_lt k (Config.groupBits_pos d)⟩ := by
    apply Fin.ext; simp only [packedBit]; rw [Nat.mul_add_mod, Nat.mod_eq_of_lt (Fin.isLt _)]
  unfold sampleBit; simp only [h, packedBit_group, Config.BitOrder.bitAt_placeOf]
  exact Nat.div_add_mod k _

/-- Each packed bit holds one sample bit, and is the bit that holds it. -/
theorem packedBit_sampleBit (d : Depth) (p : Nat) : packedBit d (sampleBit d p) = p := by
  have h : (⟨sampleBit d p % Config.groupBits d, Nat.mod_lt _ (Config.groupBits_pos d)⟩ : Fin _)
      = (Config.bitOrder d).bitAt ⟨p % Config.groupBits d, Nat.mod_lt p (Config.groupBits_pos d)⟩ := by
    apply Fin.ext; simp only [sampleBit]; rw [Nat.mul_add_mod, Nat.mod_eq_of_lt (Fin.isLt _)]
  unfold packedBit; simp only [h, sampleBit_group, Config.BitOrder.placeOf_bitAt]
  exact Nat.div_add_mod p _

/-- A bit of a packed byte is the sample bit it holds. -/
theorem packedByte_bit (d : Depth) (width : Nat) (quads : List Quad) (i : Nat) {b : Nat} (h : b < 8) :
    (packedByte d width quads i).getLsbD b
      = (orderedSample width quads (sampleBit d (8 * i + b) / d.bits)).testBit (sampleBit d (8 * i + b) % d.bits) := by
  simp only [packedByte, BitVec.getLsbD_ofNat, natOfBits_testBit, h, decide_true, Bool.true_and]

/-- An unpacked sample lies within its depth. -/
theorem unpackedSample_lt (d : Depth) (extents : List (List Byte)) (t : Nat) : unpackedSample d extents t < 2 ^ d.bits :=
  natOfBits_lt _ _

/-- A bit of an unpacked sample is the packed bit that holds it. -/
theorem unpackedSample_bit (d : Depth) (extents : List (List Byte)) (t : Nat) {b : Nat} (h : b < d.bits) :
    (unpackedSample d extents t).testBit b
      = (cardByte extents (packedBit d (d.bits * t + b) / 8)).getLsbD (packedBit d (d.bits * t + b) % 8) := by
  simp only [unpackedSample, natOfBits_testBit, h, decide_true, Bool.true_and]

end Sys2Proof.Machine
end

