-- ==== Sys2Proof/Tests/Slice0.lean ====
section
/-! SUPPORT. The model's own tests: ill-formed commands, the worked figures of the manual, and for each statement a state
that meets its hypotheses. Expected results come from the manual's examples, cited by the rule beside them. -/

namespace Sys2Proof.Tests
open Sys2Proof Sys2Proof.Machine

/-! ### Well-formedness: for each check a term it refuses -/

/-- The fields of a SET_CAPTURE that is well formed. -/
def capture0 : CaptureArgs :=
  { exposure := 8000, gain := 0, depth := some .d14, left := 1000, top := 10, width := 5500, height := 3000,
    drive := some .burst, rate := 30, ringDepth := 10, debounce := 2000, trigger := some false, step := 32 }

/-- The fields of a SET_SYNC that is well formed. -/
def sync0 : SyncArgs := { period := 3, mask := 3, delay := 0, duration := 1000, wait := 0 }

/-- The fields of a SET_AF that is well formed. -/
def af0 : AfArgs :=
  { mode := some .single, left := 4, top := 2, width := 6, height := 5, minConf := 64, tolerance := 8, focusWait := 0,
    searchStep := 200 }

/-- The fields of a SET_LENS that is well formed. -/
def lens0 : LensArgs := { present := some true, near := 1000, far := 60000, gain := 4096, maxPredict := 200, position := 10000 }

/-- The fields of a SET_LOOK that is well formed. -/
def look0 : LookArgs :=
  { wb := some .fixed, gR := 2048, gG := 1024, gB := 1638, curve := 0, scale := some .half, auto := some false, select := some true }

/-- The fields of a SET_TETHER that is well formed. -/
def tether0 : TetherArgs :=
  { station := 0x020000000001#48, part := 0x020000000614#48, etherType := 0x9C0E, ackTimeout := 200, autoRejoin := some true,
    pullList := some true, pullThumb := some true, pullRendition := some true, pullRaw := some false, pullCap := 16,
    urgentLevel := 24 }

/-- The fields of a SET_SEND_RULE that is well formed. -/
def rule0 : RuleArgs := { matching := some .all, kind := some .thumb, priority := 31, offset := some (some 1), policy := some .drop }

theorem test_wf_accepts : ([.setCapture 255 capture0, .setSync 0 sync0, .setAf 0 af0, .setLens 0 lens0, .setLook 0 7 look0,
    .setTether 0 tether0, .setSendRule 0 1 rule0, .portFree] : List Instr).all Instr.wf = true := by decide

theorem test_wf_tags : ([.identify 256, .reset 256, .saveSettings 256, .rejoin 256, .getStatus 256 [], .readReports 256 1 none,
    .setRoutes 256 [(none, none)], .setTime 256 0, .setPower 256 none, .setThresholds 256 0 0, .setCapture 256 capture0,
    .setSync 256 sync0, .release 256 none, .setShotBase 256 1, .setAf 256 af0, .setLens 256 lens0, .listShots 256 0 1,
    .readShot 256 1] : List Instr).all (fun i => !i.wf) = true := by decide

theorem test_wf_tags_more : ([.readThumb 256 1 0 1, .tagShot 256 1 none none none, .hold 256 1 none, .unhold 256 1 none,
    .deleteShot 256 1, .readCardIndex 256 0 1, .setLook 256 0 look0, .setCurve 256 0 curveFactory, .develop 256 1 0,
    .setCardMode 256 none none, .grantWindow 256 none 1 0 1, .recall 256 1 none, .setTether 256 tether0,
    .setSendRule 256 0 rule0, .enqueue 256 1 none 0 none none, .cancelItem 256 1, .readQueue 256 0 1,
    .answerPull 256 1 none 0] : List Instr).all (fun i => !i.wf) = true := by decide

theorem test_wf_command_fields : ([.getStatus 0 (List.replicate 10 none), .readReports 0 256 none, .setRoutes 0 [],
    .setRoutes 0 (List.replicate 29 (none, none)), .setTime 0 (2 ^ 64), .setThresholds 0 65536 0, .setThresholds 0 0 65536,
    .setShotBase 0 (2 ^ 32), .listShots 0 (2 ^ 32) 1, .listShots 0 0 256, .readShot 0 (2 ^ 32), .readThumb 0 (2 ^ 32) 0 1,
    .readThumb 0 1 (2 ^ 32) 1, .readThumb 0 1 0 65536, .tagShot 0 (2 ^ 32) none none none,
    .tagShot 0 1 none none (some (some 256))] : List Instr).all (fun i => !i.wf) = true := by decide

theorem test_wf_command_fields_more : ([.hold 0 (2 ^ 32) none, .unhold 0 (2 ^ 32) none, .deleteShot 0 (2 ^ 32),
    .readCardIndex 0 65536 1, .readCardIndex 0 0 256, .setLook 0 256 look0, .setCurve 0 256 curveFactory, .setCurve 0 0 [0],
    .setCurve 0 0 (List.replicate 17 65536), .develop 0 (2 ^ 32) 0, .develop 0 1 256, .grantWindow 0 none 65536 0 1,
    .grantWindow 0 none 1 (2 ^ 32) 1, .grantWindow 0 none 1 0 (2 ^ 32), .recall 0 (2 ^ 32) none,
    .setSendRule 0 256 rule0] : List Instr).all (fun i => !i.wf) = true := by decide

theorem test_wf_queue_fields : ([.enqueue 0 (2 ^ 32) none 0 none none, .enqueue 0 1 none 256 none none,
    .enqueue 0 1 none 0 (some (some (2 ^ 64))) none, .cancelItem 0 (2 ^ 32), .readQueue 0 256 1, .readQueue 0 0 256,
    .answerPull 0 65536 none 0, .answerPull 0 1 none 256] : List Instr).all (fun i => !i.wf) = true := by decide

theorem test_wf_capture_fields : ([{ capture0 with exposure := 2 ^ 32 }, { capture0 with gain := 256 },
    { capture0 with left := 65536 }, { capture0 with top := 65536 }, { capture0 with width := 65536 },
    { capture0 with height := 65536 }, { capture0 with rate := 256 }, { capture0 with ringDepth := 256 },
    { capture0 with debounce := 65536 }, { capture0 with step := 65536 }] : List CaptureArgs).all (fun a => !a.wf) = true := by
  decide

theorem test_wf_sync_fields : ([{ sync0 with period := 256 }, { sync0 with delay := 2 ^ 32 }, { sync0 with duration := 2 ^ 32 },
    { sync0 with wait := 65536 }] : List SyncArgs).all (fun a => !a.wf) = true := by decide

theorem test_wf_af_fields : ([{ af0 with left := 256 }, { af0 with top := 256 }, { af0 with width := 256 },
    { af0 with height := 256 }, { af0 with minConf := 256 }, { af0 with tolerance := 256 }, { af0 with focusWait := 65536 },
    { af0 with searchStep := 65536 }] : List AfArgs).all (fun a => !a.wf) = true := by decide

theorem test_wf_lens_fields : ([{ lens0 with near := 65536 }, { lens0 with far := 65536 }, { lens0 with gain := 65536 },
    { lens0 with maxPredict := 65536 }, { lens0 with position := 65536 }] : List LensArgs).all (fun a => !a.wf) = true := by
  decide

theorem test_wf_look_fields : ([{ look0 with gR := 65536 }, { look0 with gG := 65536 }, { look0 with gB := 65536 },
    { look0 with curve := 256 }] : List LookArgs).all (fun a => !a.wf) = true := by decide

theorem test_wf_tether_fields : ([{ tether0 with etherType := 65536 }, { tether0 with ackTimeout := 65536 },
    { tether0 with pullCap := 256 }, { tether0 with urgentLevel := 256 }] : List TetherArgs).all (fun a => !a.wf) = true := by
  decide

theorem test_wf_rule_fields : ([{ rule0 with priority := 256 }, { rule0 with offset := some (some (2 ^ 32)) }] : List RuleArgs).all
    (fun a => !a.wf) = true := by decide

theorem test_wf_link_events : ([.lengthOversize 4096, .lengthOversize 65536, .frameComplete [], .frameComplete (List.replicate 4103 0),
    .replyRead 65536, .resetPendingTimeout 65536, .pinReset 65536, .supplyRecovered 65536,
    .supplyReading 65536] : List Instr).all (fun i => !i.wf) = true := by decide +kernel

/-- A pupil line of 64 samples at the greatest value (R69). -/
def line0 : List Nat := List.replicate 64 1023

/-- The pupil lines of all 150 zones. -/
def grid0 : List PupilLines := List.replicate 150 ⟨line0, line0⟩

/-- The grid with another zone 0. -/
def zone0 (l r : List Nat) : List PupilLines := ⟨l, r⟩ :: grid0.drop 1

theorem test_wf_accepts_lines : ([.liveFrame grid0, .readoutEnd [⟨16383, 16383, 16383, 16383⟩] grid0] : List Instr).all Instr.wf = true := by
  decide +kernel

theorem test_wf_sensor_events : ([.liveFrame [], .liveFrame (grid0.drop 1), .liveFrame (⟨line0, line0⟩ :: grid0),
    .liveFrame (zone0 (0 :: line0) line0), .liveFrame (zone0 line0 (line0.drop 1)), .liveFrame (zone0 (1024 :: line0.drop 1) line0),
    .liveFrame (zone0 line0 (1024 :: line0.drop 1)), .obRowsEnd (List.replicate 1025 0), .obRowsEnd [16384],
    .readoutEnd [⟨16384, 0, 0, 0⟩] grid0, .readoutEnd [⟨0, 16384, 0, 0⟩] grid0, .readoutEnd [⟨0, 0, 16384, 0⟩] grid0,
    .readoutEnd [⟨0, 0, 0, 16384⟩] grid0, .readoutEnd [] (zone0 (1024 :: line0.drop 1) line0),
    .lensSettled 65536] : List Instr).all (fun i => !i.wf) = true := by
  decide +kernel

theorem test_wf_readout_quads : ∀ q : Quad, (Instr.readoutEnd (List.replicate 6000001 q) []).wf = false := by
  intro q
  have h : decide (6000001 ≤ 6000000) = false := by decide
  simp only [Instr.wf, List.length_replicate, h, Bool.false_and]

theorem test_wf_extent_data : ∀ b : Byte, (Instr.extentReadEnd .a true (List.replicate 1048577 b)).wf = false := by
  intro b; simp only [Instr.wf, List.length_replicate, decide_eq_false_iff_not]; omega

theorem test_wf_card_and_station_events : ([.mountComplete .a 0 false, .mountComplete .a (2 ^ 32) false, .acceptReceived 65536 0 1,
    .acceptReceived 1 (2 ^ 32) 1, .acceptReceived 1 0 256, .refuseReceived 65536 .declined, .ackReceived 65536 0 1,
    .ackReceived 1 (2 ^ 32) 1, .ackReceived 1 0 256, .nakReceived 65536 0, .nakReceived 1 (2 ^ 32), .beaconReceived 65536 .opened,
    .pullReceived 65536 .list 1 0, .pullReceived 1 .list (2 ^ 32) 0, .pullReceived 1 .list 1 256,
    .deadlineExpiry (2 ^ 32)] : List Instr).all (fun i => !i.wf) = true := by decide

/-! ### The worked figures of the manual -/

/-- R220: the check of the nine bytes "123456789". -/
theorem test_crc16_check : crc16 [0x31, 0x32, 0x33, 0x34, 0x35, 0x36, 0x37, 0x38, 0x39] = 0x29B1#16 := by decide +kernel

/-- R158: the frame check sequence of the nine bytes "123456789". -/
theorem test_crc32_check : crc32 [0x31, 0x32, 0x33, 0x34, 0x35, 0x36, 0x37, 0x38, 0x39] = 0xCBF43926#32 := by decide +kernel

/-- R233: IDENTIFY with TAG 0x2C. -/
theorem test_identify_frame : (Command.frame (.identify 0x2C)).map (fun f => (f.length, f.take 4)) = some (6, [0x00, 0x00, 0x01, 0x2C]) := by
  decide +kernel

/-- 2.2, the example of a SET_CAPTURE that is clamped. -/
theorem test_capture_clamped : (capture0.used .d14 .burst false).rate = 22 ∧ (capture0.used .d14 .burst false).exposure = 5454
    ∧ (capture0.used .d14 .burst false).ringDepth = 8 ∧ (capture0.used .d14 .burst false).crop = ⟨512, 0, 5488, 2992⟩
    ∧ rawSize .d14 ⟨512, 0, 5488, 2992⟩ = 28735168 ∧ extentsFor 28735168 = 28 := by decide

/-- 2.8, baseline over five frames: R62. -/
theorem test_black_baseline : nextBlack 32 none 512 = 8192 ∧ nextBlack 32 (some 8192) 515 = 8198 ∧ nextBlack 32 (some 8198) 512 = 8198
    ∧ nextBlack 32 (some 8198) 540 = 8230 ∧ nextBlack 32 (some 8230) 470 = 8198 := by decide

/-- 2.8, three quads of frame 5: R63. -/
theorem test_frame_statistics : ([⟨900, 1500, 1510, 700⟩, ⟨900, 4000, 1510, 700⟩, ⟨100, 600, 602, 300⟩] : List Quad).foldl
      (fun (st : Stats) q => st.add (normalizedQuad .d12 q)) ⟨470, 8198, 0, 0, 0, 0, 0⟩ = ⟨470, 8198, 49402, 118388, 47604, 2, 1⟩ := by decide

/-- A pupil line that is a ramp. -/
def ramp (base slope : Nat) : List Nat := (List.range 64).map fun j => base + slope * j

/-- Phase, confidence and edge of a measured zone. -/
def figures (l r : List Nat) : Int × Nat × Bool := let z := measureZone 0 ⟨l, r⟩; (z.phase, z.confidence, z.edge)

/-- 3.2, cases A to E: R70 to R74. -/
theorem test_phase_figures : figures (ramp 70 10) (ramp 100 10) = (48, 255, false) ∧ figures (ramp 65 10) (ramp 100 10) = (56, 241, false)
    ∧ figures (ramp 100 10) (ramp 300 10) = (256, 204, true) ∧ figures (ramp 99 4) (ramp 100 4) = (2, 248, false)
    ∧ figures (ramp 512 0) (ramp 512 0) = (0, 0, false) := by decide +kernel

/-- 3.2: a, b and c of 1,800, 600 and 1,000 at shift 3 give P = 52 (R73). -/
theorem test_sub_sample : 16 * 3 + subSample 1800 600 1000 = 52 := by decide

/-- A zone of a confidence and an edge flag. -/
def zoneOf (c : Nat) (edge : Bool) : Zone := { phase := 0, confidence := c, edge := edge, time := some 0 }

/-- The state of 3.5's example: the AF area, min_conf 64 and the first frame's zones. -/
def zoned : State :=
  { State.reset with
    settings := { Settings.factory with af := { AfSettings.factory with area := ⟨4, 2, 6, 5⟩ } },
    foc := { Foc.reset with zones := ((((((Foc.reset.zones.set 10 (zoneOf 250 false)).set 38 (zoneOf 220 true)).set 66
      (zoneOf 180 false)).set 67 (zoneOf 180 false)).set 83 (zoneOf 60 false)).set 95 (zoneOf 150 false)) } }

/-- 3.5, the first frame: zone 66 is chosen among 66, 67 and 95 (R81, R82). -/
theorem test_zone_choice : zoned.eligibleZones = [66, 67, 95] ∧ zoned.chooseZone = some 66
    ∧ zoned.settings.af.area.distance 66 = 1 ∧ zoned.settings.af.area.distance 95 = 4 := by decide +kernel

/-- 4.5, the prediction at 75,000 and at 100,000 us (R97). -/
theorem test_prediction : (Lens.mk 1000 60000 4096 200).predict 0 10000 75000 10750 100000 = 10950
    ∧ (Lens.mk 1000 60000 4096 200).predict 25000 10250 100000 11000 125000 = 11200 := by decide

/-- An opportunity that lies before the time base's 0 after a SET_TIME is not after the newest pair: the lead is 0, and
the prediction is that pair's target (R97). -/
theorem test_prediction_before_zero :
    let s := { State.reset with
      sup := { State.reset.sup with elapsed := 1000, timeBase := 40 },
      cap := { State.reset.cap with drive := .burst, frame := some { opp := 500, reached := true, flashWait := .unstarted, stalled := none } } }
    s.prediction (Lens.mk 1000 60000 4096 200) [(0, 10000), (1, 10100), (2, 10200), (75000, 10750)] = some 10750 := by decide

/-- The look slot of 5.4's worked quad. -/
def gains0 : Gains := ⟨2048, 1024, 1638⟩

/-- 5.4, one quad: the linear values and the output pixel (R124, R126). -/
theorem test_develop_quad : [Channel.r, .g, .b].map (linearQuad 8192 gains0 ⟨2560, 4608, 4672, 3072⟩) = [17331, 17466, 17327]
    ∧ [17331, 17466, 17327].map (toneCurve curveFactory) = [124, 125, 124] := by decide

/-- 5.4: the averaged quarter, the clipped channel, the channel below black and the falling curve (R124 to R126). -/
theorem test_develop_limits : toneCurve curveFactory ((17331 + 17000 + 16500 + 18001) / 4) = 124 ∧ linear 8192 8191 40000 = 65535
    ∧ toneCurve curveFactory 65535 = 255 ∧ linear 8192 1024 (aboveBlack 8192 400) = 0
    ∧ toneCurve [0, 0, 0, 0, 0, 0, 0, 0, 0, 200, 180, 0, 0, 0, 0, 0, 0] 37864 = 195 := by decide

/-- 5.4, AUTO_GREY gains of shots a to d (R127). -/
theorem test_auto_grey : passGains ⟨0, .autoGrey, gains0⟩ ⟨0, 0, 162000000000, 270000000000, 216000000000, 5400000, 0⟩ 6000 4000 true
      = (⟨1706, 1024, 1280⟩, false)
    ∧ passGains ⟨0, .autoGrey, gains0⟩ ⟨0, 0, 27000000000, 270000000000, 135000000000, 5400000, 0⟩ 6000 4000 true = (⟨8191, 1024, 2048⟩, false)
    ∧ passGains ⟨0, .autoGrey, gains0⟩ ⟨0, 0, 1, 1, 1, 59999, 0⟩ 6000 4000 false = (gains0, true)
    ∧ passGains ⟨0, .autoGrey, gains0⟩ ⟨0, 0, 90000000000, 120000000000, 0, 4000000, 0⟩ 6000 4000 false = (gains0, true) := by decide

/-- 6.2: a full-frame 12-bit raw is 70,313 blocks (R137). -/
theorem test_blocks : blocksFor 36000000 = 70313 := by decide

/-- 9.2, the battery sag, reading by reading (R206). -/
theorem test_battery_sag : levelAfter 6600 6200 .normal 7200 = .normal ∧ levelAfter 6600 6200 .normal 6650 = .normal
    ∧ levelAfter 6600 6200 .normal 6580 = .low ∧ levelAfter 6600 6200 .low 6680 = .low ∧ levelAfter 6600 6200 .low 6190 = .critical
    ∧ levelAfter 6600 6200 .critical 6280 = .critical ∧ levelAfter 6600 6200 .critical 6320 = .low
    ∧ levelAfter 6600 6200 .low 6720 = .normal ∧ levelAfter 6600 6200 .normal 6150 = .critical := by decide

/-- What a step at the front of the queue answers. -/
def after (c : Instr) (s : State) : State :=
  match step { s with pending := [c] } with
  | .next t => t
  | .fault _ => s
  | .refused _ => s

/-- R208: LOW 8,000 with CRITICAL 7,000 is used as 7,600 and 7,000. -/
theorem test_thresholds : ((after (.setThresholds 1 8000 7000) State.reset).settings.low, (after (.setThresholds 1 8000 7000) State.reset).settings.critical)
      = (7600, 7000)
    ∧ (after (.setThresholds 1 6000 6000) State.reset).settings.critical = 5900 := by decide +kernel

/-- R207: the reading 6,580 brings the level to LOW and raises POWER_LEVEL. -/
theorem test_reading_lowers_level : (after (.supplyReading 6580) State.reset).sup.level = .low
    ∧ (after (.supplyReading 6580) State.reset).link.reports.map (·.kind) = [.powerLevel] := by decide +kernel

/-- R220, R229, R233: the complete frame of IDENTIFY is answered with the KIND 0x81, its TAG, OK and the vendor name; a
frame whose check fails counts one CHECK error. -/
theorem test_identify_answered :
    ((after (.frameComplete (frameBytes 1 0x2C [])) { State.reset with link := { Link.reset Pins.quiet with assembler := .frame } }).link.replies.map
        fun r => (r.kind, r.tag, r.body.take 8)) = [(0x81, 0x2C, [0x00, 7, 0x4D, 0x65, 0x72, 0x6F, 0x73, 0x74])]
    ∧ (after (.frameComplete [0x00, 0x00, 0x01, 0x2C, 0, 0])
        { State.reset with link := { Link.reset Pins.quiet with assembler := .frame } }).link.lastError = some .check := by decide +kernel

/-! ### States that meet the hypotheses of the statements

One theorem for each statement that has hypotheses: for each of its clauses a state and operands, at a boundary where
there is one, that meet what the clause assumes. -/

/-- The state after reset. -/
def z : State := State.reset

/-- A queue of replies. -/
def replies (n : Nat) (s : State) : State := { s with link := { s.link with replies := List.replicate n ⟨0x81, 0, [0]⟩ } }

/-- A power state. -/
def power (p : PowerState) (s : State) : State := { s with sup := { s.sup with power := p } }

/-- The brown-out hold. -/
def holding (lost : Bool) : State := { z with sup := { z.sup with brownout := some lost } }

/-- A RESET is pending. -/
def resetting (due : Nat) : State := { z with link := { z.link with resetDue := some due } }

/-- An assembler state. -/
def assembling (a : Assembler) : State := { z with link := { z.link with assembler := a } }

theorem takes {s : State} (h : (!s.held && s.link.resetDue.isNone && decide (s.link.replies.length < 8)) = true) : s.Takes := by
  simp only [Bool.and_eq_true, Bool.not_eq_true', Option.isNone_iff_eq_none, decide_eq_true_eq] at h
  exact ⟨h.1.1, h.1.2, h.2⟩

theorem steady {s : State} (h : s.notices = []) (hr : s.refresh = s) : s.Steady := ⟨h, hr⟩

/-- A raw of two extents, held as UNSAVED. -/
def raw0 : Obj :=
  { size := 1179648, extents := [0, 1], complete := true, holds := { unsaved := true }, scale := none, cardBound := true,
    producer := .cap, data := .sensor .d12 1024 [] }

/-- A thumbnail. -/
def thumb0 : Thumb := { width := 51, height := 38, size := 5814, data := .developed ⟨.sensor [], .d12, 1024, 768, 0, gains0, curveFactory, .thumb⟩ }

/-- A BUFFERED shot of number 1 with its raw. -/
def shot0 : Shot :=
  { state := .buffered, number := some 1, startTime := 5, snapshot := some ⟨4000, 0, .d12, ⟨0, 0, 1024, 768⟩⟩, stats := none,
    verdict := .manual, lensPosition := none, zone := none, flash := some .none, urgent := false, picked := false, rating := 0,
    look := some ⟨0, .fixed, gains0⟩, wbFallback := false, thumb := none, raw := some raw0, rendition := none, cards := {},
    reinstated := false, deleting := false }

/-- A buffer whose entry 0 is a shot that owns extents 0 and 1. -/
def shoot (sh : Shot) : State :=
  { z with
    sbm := { z.sbm with freeList := (List.range 2048).drop 2, shots := some sh :: List.replicate 63 none, nextNumber := some 2 } }

/-- A card slot A. -/
def card (c : CardSlot) (s : State) : State := { s with crd := { s.crd with a := c, mountCounter := 4 } }

/-- An IDLE slot of mount number 3 with the capacity of 6.2's example. -/
def idle0 : CardSlot := { CardSlot.absent with state := .idle, mount := some 3, capacity := some 60000000 }

/-- A write job of the raw of shot 1. -/
def job0 : WriteJob := { shot := 1, entry := 0, kind := .raw, blocks := 2304, extents := 2, start := some 100000, written := 0, stop := false }

/-- A WRITING slot whose active job is `j`. -/
def writing (j : WriteJob) (retry : Nat) : CardSlot :=
  { idle0 with state := .writing, window := some ⟨100000, 150000⟩, cursor := 100000, queue := [j], retry := retry }

/-- A recall that reads. -/
def recall0 : Recall :=
  { shot := 1, kind := .rendition, scale := some .half, mount := 3, start := 100000, blocks := 4096, size := 2000000,
    fields := ⟨5, .manual, false, false, 0, false, false, true, false⟩, host := true, items := [], state := .reading,
    entry := some 0, read := 0, retry := 0, stop := false }

/-- A slot that reads a recall. -/
def reading (r : Recall) : CardSlot := { idle0 with readMark := true, recalls := [r] }

/-- A card index entry of the raw of shot 1. -/
def index0 : IndexEntry :=
  { shot := 1, startTime := 5, kind := .raw, scale := none, slot := .a, mount := 3, start := 100000, blocks := 2304,
    size := 1179648, verdict := .manual, urgent := false, picked := false, rating := 0 }

/-- An item. -/
def item0 : Item :=
  { number := 1, shot := 1, entry := some 0, kind := .raw, priority := 31, seq := 0, deadline := some 1000, policy := .keep,
    origin := .host, state := .ready, resume := none, overdue := false }

/-- Items of the queue. -/
def queued (l : List Item) (s : State) : State := { s with tet := { s.tet with items := l, nextItem := 2 } }

/-- A transfer of ten segments. -/
def transfer0 : Transfer :=
  { id := 7, item := 1, shot := 1, kind := .thumb, scale := none, size := 10000, priority := 31, segments := 10, offered := 0,
    state := .offered, acked := 0, next := 0, mark := 0, credit := 0, ackDue := some 200000, offers := 1 }

/-- A transfer in SENDING. -/
def sending0 : Transfer := { transfer0 with state := .sending, acked := 8, next := 10, mark := 10, credit := 64 }

/-- A linked station and a transfer. -/
def linked (t : Option Transfer) : State :=
  { z with
    settings := { Settings.factory with tether := { TetherSettings.factory with station := 0x020000000001#48 } },
    tet := { Tet.reset with
      state := .linked, carrier := true, heard := true, lossDue := some 1000000, lastBeacon := some 65535, status := some .opened,
      beaconTime := some 0, transfer := t } }

/-- A fitted lens. -/
def fitted (line : Option Move) (pending : Option (Nat × MoveKind)) : State :=
  { z with
    foc := { z.foc with lens := some ⟨1000, 60000, 4096, 200⟩, position := some 10000, line := line, pendingTarget := pending } }

/-- A move. -/
def move0 (attempt : Nat) : Move := { target := 11000, attempt := attempt, answerDue := 50000 }

theorem witness_StepRunsTheFrontCommand : ({ z with pending := [.syncByte] } : State).pending = .syncByte :: [] := rfl

theorem witness_IdleStepPassesAMicrosecond :
    (z.pending = [] ∧ z.sup.brownout = none ∧ z.sup.timeBase + 1 < 2 ^ 64)
    ∧ (({ z with sup := { z.sup with timeBase := 2 ^ 64 - 2 } } : State).sup.timeBase + 1 < 2 ^ 64)
    ∧ (holding true).pending = [] ∧ (holding true).sup.brownout ≠ none := by
  and_intros <;> first | rfl | decide

theorem witness_SteadyStepEndChangesNothing : z.Steady ∧ (shoot shot0).Steady ∧ (linked none).Steady := by
  refine ⟨steady rfl rfl, steady rfl rfl, steady rfl rfl⟩

theorem witness_TakenCommandsAreAnsweredOnce : (replies 7 z).Takes ∧ Command.parts (.identify 255) = some (1, 255, []) :=
  ⟨takes rfl, rfl⟩

/-- A link at every bound. -/
def atBounds : State :=
  { replies 8 z with
    pending := [.supplyReading 6000],
    link := { (replies 8 z).link with
      reports := List.replicate 64 ⟨.woken, .line1, 0, 0, []⟩, nextSeq := 65535, lost := 65535 } }

theorem witness_LinkStaysBounded : atBounds.link.Bounded ∧ ∃ t, step atBounds = .next t :=
  ⟨⟨by decide, by decide, by decide, by decide⟩, ⟨_, rfl⟩⟩

/-- Settings at the ends of their ranges. -/
def edge : Settings :=
  { Settings.factory with
    capture := { CaptureSettings.factory with
      exposure := 32, gain := 15, depth := .d14, crop := ⟨4976, 3232, 1024, 768⟩, drive := .burst, rate := 22, ringDepth := 8,
      debounce := 50000, step := 256 },
    sync := ⟨16, 0xFFFF, 100000, 100000, 1000⟩, af := ⟨.continuous, ⟨14, 9, 1, 1⟩, 255, 64, 1000, 4000⟩,
    looks := List.replicate 8 ⟨.fixed, ⟨512, 8191, 512⟩, 3, .half, true⟩, curves := List.replicate 4 (List.replicate 17 255),
    currentLook := 7, rule0 := ⟨.all, .raw, 31, some 3600000, .drop⟩, rule1 := ⟨.none, .thumb, 0, some 1, .keep⟩,
    tether := { TetherSettings.factory with etherType := 0xFFFF, ackTimeout := 2000, pullCap := 31, urgentLevel := 31 },
    low := 6000, critical := 5900 }

theorem edge_ok : edge.Ok where
  capture := ⟨by decide, by decide, ⟨by decide, by decide, by decide, by decide, by decide⟩, by decide, by decide, by decide,
    by decide, by decide⟩
  sync := ⟨by decide, by decide, by decide, by decide⟩
  af := ⟨by decide, by decide, by decide, by decide, by decide, by decide⟩
  looks := ⟨rfl, fun l h => by rw [List.eq_of_mem_replicate h]; exact ⟨by decide, by decide, by decide, by decide⟩⟩
  curves := ⟨rfl, fun t h => by
    rw [List.eq_of_mem_replicate h]; exact ⟨rfl, fun p hp => by obtain rfl := List.eq_of_mem_replicate hp; decide⟩⟩
  currentLook := by decide
  rule0 := ⟨by decide, fun ms h => by cases h; decide⟩
  rule1 := ⟨by decide, fun ms h => by cases h; decide⟩
  tether := ⟨by decide, by decide, by decide, by decide, by decide⟩
  routes := rfl
  low := by decide
  critical := by decide

/-- The part at those settings, stored, with a write of them running. -/
def atEdge : State :=
  { z with
    pending := [.settingsWriteEnd true], settings := edge,
    sup := { z.sup with store := { mark := .writing, image := some edge, crc := 0, copy := some edge, writeDue := some 180000 } } }

theorem witness_SettingsStayInRange : atEdge.SettingsOk ∧ ∃ t, step atEdge = .next t :=
  ⟨⟨edge_ok, fun g h => by cases h; exact edge_ok, fun g h => by cases h; exact edge_ok⟩, ⟨_, rfl⟩⟩

/-- A shot that a command deletes. -/
def deleting : State := { shoot shot0 with pending := [.deleteShot 1 1] }

theorem witness_ExtentsStayPartitioned : deleting.Partitioned ∧ ∃ t, step deleting = .next t := by
  refine ⟨⟨?_, ?_, fun r h => (nomatch h), fun r h => (nomatch h)⟩, ⟨_, rfl⟩⟩
  · have e : deleting.sbm.places = (List.range 2048).drop 2 ++ (List.range 2048).take 2 := by
      decide +kernel
    rw [e]
    exact List.perm_append_comm.trans (.of_eq (List.take_append_drop 2 _))
  · intro e he sh h hr
    simp only [deleting, shoot, List.mem_cons] at he
    rcases he with he | he
    · subst he; cases h; cases hr
    · rw [List.eq_of_mem_replicate he] at h; cases h

theorem witness_ElapsedTimeNeverFalls : (∃ t, step z = .next t) ∧ (Command.parts (.setTime 1 0)).isSome = true
    ∧ (∃ t, exec (.setTime 1 0) z = .next t) ∧ ∃ t, exec .carrierUp z = .next t := ⟨⟨_, rfl⟩, rfl, ⟨_, rfl⟩, ⟨_, rfl⟩⟩

theorem witness_DecodeReadsTheEncodedCommand : (Instr.setTime 255 (2 ^ 64 - 1)).wf = true
    ∧ Command.parts (.setTime 255 (2 ^ 64 - 1)) = some (0x10, 255, List.replicate 8 0xFF)
    ∧ (Instr.setTether 0 tether0).wf = true ∧ (Command.parts (.setTether 0 tether0)).isSome = true := by
  and_intros <;> first | rfl | decide

theorem witness_CompletedFrameRunsItsCommand : (Instr.setTime 255 0).wf = true ∧ (Command.frame (.setTime 255 0)).isSome = true
    ∧ (assembling .frame).held = false ∧ (assembling .frame).link.assembler = .frame := by
  and_intros <;> first | rfl | decide

theorem witness_BadFramesAreJudged :
    ((assembling .frame).held = false ∧ (assembling .frame).link.assembler = .frame ∧ (assembling .frame).Takes
      ∧ leNat (([0, 0, 1, 0, 0, 0] : List Byte).take 2) ≤ 4096
      ∧ le 2 (crc16 ([0, 0, 1, 0] : List Byte)).toNat ≠ ([0, 0, 1, 0, 0, 0] : List Byte).drop 4)
    ∧ decodeCommand 0 255 [] = .badKind ∧ decodeCommand 0x57 0 [] = .badKind ∧ decodeCommand 255 0 [] = .badKind
    ∧ decodeCommand 1 0 [0] = .badLength := by
  and_intros <;> first | rfl | exact takes rfl | decide +kernel

theorem witness_DeafLinkDiscardsCommands : (Command.parts (.identify 0)).isSome = true
    ∧ ((resetting 0).held = false ∧ (resetting 0).link.resetDue ≠ none)
    ∧ ((replies 8 z).held = false ∧ 8 ≤ (replies 8 z).link.replies.length) := by
  and_intros <;> first | rfl | decide

theorem witness_DormantRefusesCommands : (Instr.readQueue 0 0 1).wf = true
    ∧ Command.parts (.readQueue 0 0 1) = some (0x54, 0, [0, 1]) ∧ (power .dormant z).Takes ∧ (power .dormant z).sup.power = .dormant := by
  and_intros <;> first | rfl | exact takes rfl | decide

theorem witness_BadValuesChangeNothing : (Instr.setPower 0 none).wf = true ∧ (Instr.setPower 0 none).outside = true
    ∧ Command.parts (.setPower 0 none) = some (0x11, 0, [0xFF]) ∧ (power .dormant z).Takes ∧ (power .dormant z).Steady
    ∧ (Instr.setCurve 0 4 curveFactory).wf = true ∧ (Instr.setCurve 0 4 curveFactory).outside = true
    ∧ z.Takes ∧ z.Steady ∧ z.sup.power ≠ .dormant := by
  and_intros <;> first | rfl | exact takes rfl | exact steady rfl rfl | decide

theorem witness_HoldFreezesAllButThePins : (holding false).sup.brownout ≠ none ∧ (holding true).sup.brownout ≠ none
    ∧ (∀ mv, Instr.identify 0 ≠ .supplyRecovered mv) ∧ Instr.identify 0 ≠ .powerLoss ∧ z.sup.brownout = none := by
  and_intros <;> first | rfl | decide | nofun

theorem witness_ChipSelectAndAssembler : (z.held = false ∧ z.pins.chipSelect = true)
    ∧ (let s := { assembling .frame with pins := { Pins.quiet with chipSelect := false } }
       s.held = false ∧ s.pins.chipSelect = false ∧ s.link.assembler = .frame)
    ∧ (let s := { assembling .skip with pins := { Pins.quiet with chipSelect := false } }
       s.held = false ∧ s.pins.chipSelect = false ∧ s.link.assembler ≠ .frame)
    ∧ (assembling .hunt).link.assembler = .hunt ∧ 4096 < 4097 := by
  and_intros <;> first | rfl | decide

theorem witness_RepliesAreReadOldestFirst :
    (let s := { replies 8 z with link := { (replies 8 z).link with shifting := true } }
     s.held = false ∧ s.link.shifting = true ∧ s.link.resetDue = none)
    ∧ (let s := { replies 1 z with link := { (replies 1 z).link with shifting := true, resetDue := some 100000 } }
       s.held = false ∧ s.link.shifting = true ∧ s.link.resetDue ≠ none ∧ s.link.replies.length = 1
       ∧ s.sup.store.atReset.settings.low ≤ 6600 ∧ 6599 < s.sup.store.atReset.settings.low)
    ∧ (replies 8 z).link.replies = ⟨0x81, 0, [0]⟩ :: List.replicate 7 ⟨0x81, 0, [0]⟩
    ∧ z.link.shifting = false ∧ z.link.replies = [] := by
  and_intros <;> first | rfl | decide

/-- The reply OK to SET_TIME with TAG 0x2C is shifted out from its SYNC byte on, laid out as R233 gives; after its CHECK
the part shifts out 0x00 (R222). -/
theorem test_reply_shifts_out :
    let s := { z with link := { z.link with shifting := true, replies := [⟨0x90, 0x2C, [0]⟩, ⟨0x81, 0, [0]⟩] } }
    (List.range 6).map s.shiftOut = [0xA5, 0x01, 0x00, 0x90, 0x2C, 0x00] ∧ s.shiftOut 8 = 0 := by
  and_intros <;> rfl

theorem witness_ResetsLeaveTheResetState : (z.held = false ∧ z.sup.store.atReset.settings.low ≤ 6600)
    ∧ 6599 < z.sup.store.atReset.settings.low ∧ (resetting 100000).held = false ∧ (resetting 100000).link.resetDue = some 100000
    ∧ 6599 < (resetting 100000).sup.store.atReset.settings.low
    ∧ (holding false).sup.brownout = some false ∧ (holding true).sup.brownout = some true
    ∧ 6599 < (holding true).sup.store.atReset.settings.low := by
  and_intros <;> first | rfl | decide

theorem witness_IdentifyIsTakenInEveryPowerState : (replies 7 (power .dormant z)).Takes ∧ (replies 7 (power .dormant z)).Steady :=
  ⟨takes rfl, steady rfl rfl⟩

theorem witness_ReadOnlyCommandsAnswerAlone : (shoot { shot0 with thumb := some thumb0 }).Awake
    ∧ (shoot { shot0 with thumb := some thumb0 }).Steady
    ∧ (shoot { shot0 with thumb := some thumb0 }).committed 1 = some (0, { shot0 with thumb := some thumb0 })
    ∧ 5813 + 1 ≤ thumb0.size ∧ 1814 + 4000 ≤ thumb0.size
    ∧ shot0.deleting = false
    ∧ ((shoot shot0).Awake ∧ (shoot shot0).Steady ∧ (shoot shot0).committed 1 = some (0, shot0) ∧ shot0.thumb = none)
    ∧ (let sh := { shot0 with deleting := true, thumb := some thumb0 }
       (shoot sh).Awake ∧ (shoot sh).Steady ∧ (shoot sh).committed 1 = some (0, sh))
    ∧ (z.Awake ∧ z.Steady ∧ z.committed 1 = none) ∧ (z.Takes ∧ StatusPart.all.length ≤ 9) := by
  and_intros <;> first | rfl | exact takes rfl | exact steady rfl rfl | decide

theorem witness_ReadReportsTakesTheOldestThatFit :
    (let s := { z with link := { z.link with reports := List.replicate 64 ⟨.woken, .line1, 0, 0, List.replicate 100 0⟩, lost := 65535 } }
     s.Awake ∧ s.Steady) ∧ 1 ≤ 64 := by
  and_intros <;> first | rfl | exact takes rfl | exact steady rfl rfl | decide

theorem witness_SettingCommandsReplaceTheirSettings : (replies 7 z).Awake
    ∧ 1 ≤ [(ReportKind.woken, Route.off)].length ∧ (List.replicate 28 (ReportKind.woken, Route.off)).length ≤ 28
    ∧ 1 < 2 ∧ 7 < 8 ∧ 3 < 4 ∧ (List.replicate 17 65535).length = 17 := by
  and_intros <;> first | rfl | exact takes rfl | decide

theorem witness_SettingCommandsActAtOnce : z.Awake ∧ capture0.depth = some .d14 ∧ capture0.drive = some .burst
    ∧ capture0.trigger = some false ∧ af0.mode = some .single ∧ tether0.badAddress = false ∧ tether0.autoRejoin = some true
    ∧ tether0.pullList = some true ∧ tether0.pullThumb = some true ∧ tether0.pullRendition = some true
    ∧ tether0.pullRaw = some false ∧ tether0.station ≠ z.settings.tether.station
    ∧ (tether0.used true true true true false).sameLink z.settings.tether = false := by
  and_intros <;> first | rfl | exact takes rfl | decide

theorem witness_ClampsLandInRangeAndKeepWhatFits : tether0.wf = true ∧ tether0.badAddress = false ∧ lens0.wf = true
    ∧ (lens0.near < lens0.far ∧ 1 ≤ lens0.gain ∧ lens0.maxPredict ≤ 10000 ∧ lens0.near ≤ lens0.position ∧ lens0.position ≤ lens0.far)
    ∧ (sync0.sent).Ok ∧ edge.rule1.Ok ∧ ({ lens0 with near := 65535, far := 0 } : LensArgs).wf = true := by
  and_intros <;> first | rfl | decide | exact ⟨by decide, by decide, by decide, by decide⟩ | exact edge_ok.rule1

theorem witness_ResetAndSaveAreAccepted : (replies 7 z).Awake ∧ (replies 7 z).sup.store.mark ≠ .writing
    ∧ (atEdge.Awake ∧ atEdge.Steady ∧ atEdge.sup.store.mark = .writing)
    ∧ (atEdge.held = false ∧ atEdge.sup.store.writeDue = some 180000 ∧ atEdge.sup.store.copy = some edge) := by
  and_intros <;> first | rfl | exact takes rfl | exact steady rfl rfl | decide

theorem witness_SetTimeMovesTheTimeBase :
    (let s := queued [item0] (shoot shot0)
     s.Awake ∧ (∀ h ∈ s.heldTimes, h ≤ 5) ∧ s.foc.lostTime = none ∧ ∀ x ∈ s.tet.items, ∀ d, x.deadline = some d → 5 < d)
    ∧ ((shoot shot0).Awake ∧ (shoot shot0).Steady ∧ 5 ∈ (shoot shot0).heldTimes ∧ 4 < 5) := by
  and_intros <;> first
    | rfl
    | exact takes rfl
    | exact steady rfl rfl
    | decide
    | (intro x hx d hd; simp only [queued, List.mem_singleton] at hx; subst hx; cases hd; decide)

/-- DORMANT with a wake running. -/
def waking (target : PowerState) : State :=
  { power .dormant z with sup := { (power .dormant z).sup with wake := some ⟨target, .command, 8000⟩ } }

/-- A release line whose candidate waits. -/
def candidate (p : PowerState) : State :=
  { power p z with cap := { z.cap with relHalf := { recognized := false, since := some 0, atReset := false } } }

theorem witness_SetPowerFollowsTheTable : (z.Takes ∧ z.Steady ∧ z.sup.power = .active)
    ∧ ((power .standby z).Takes ∧ (power .standby z).sup.power = .standby)
    ∧ (∀ b, z.barred b = false) ∧ ((shoot shot0).Takes ∧ (shoot shot0).Steady ∧ (shoot shot0).barred .entries = true)
    ∧ ((power .dormant z).Takes ∧ (power .dormant z).Steady ∧ (power .dormant z).sup.power = .dormant ∧ (power .dormant z).sup.wake = none)
    ∧ ((waking .active).Takes ∧ (waking .active).Steady ∧ (waking .active).sup.wake = some ⟨.active, .command, 8000⟩) := by
  and_intros <;> first | rfl | exact takes rfl | exact steady rfl rfl | decide | (intro b; cases b <;> rfl)

theorem witness_WakeEndTakesTheTarget : ((waking .standby).held = false ∧ (waking .standby).sup.wake = some ⟨.standby, .command, 8000⟩)
    ∧ ((candidate .dormant).held = false ∧ (candidate .dormant).sup.power = .dormant ∧ InputLine.relHalf ≠ .trigIn
      ∧ ((candidate .dormant).cap.debouncer .relHalf).recognized = false ∧ ((candidate .dormant).cap.debouncer .relHalf).since = some 0)
    ∧ (let s := { waking .standby with cap := (candidate .dormant).cap }
       s.held = false ∧ s.sup.power = .dormant ∧ s.sup.wake = some ⟨.standby, .command, 8000⟩ ∧ (s.cap.debouncer .relHalf).since = some 0) := by
  and_intros <;> first | rfl | decide

theorem witness_SupplyReadingSetsTheLevel : z.held = false ∧ 5900 + 100 ≤ 6000 := by decide

/-- A report queue of 63 or 64 records. -/
def reported (n : Nat) : State := { z with link := { z.link with reports := List.replicate n ⟨.woken, .line1, 0, 0, []⟩, nextSeq := 65535 } }

theorem witness_RaisedReportsFollowTheirRoute :
    ({ Settings.factory with routes := List.replicate 28 .off } : Settings).routes[ReportKind.woken.number - 1]? = some .off
    ∧ (((reported 63).settings.routes[ReportKind.stallBegin.number - 1]?).bind Route.line = some .line0 ∧ (reported 63).link.reports.length < 64)
    ∧ (((reported 64).settings.routes[ReportKind.woken.number - 1]?).bind Route.line = some .line1 ∧ 64 ≤ (reported 64).link.reports.length) := by
  and_intros <;> first | rfl | decide

theorem witness_AttentionLinesFollowTheQueue : z.held = false ∧ 64 ≤ (reported 64).link.reports.length
    ∧ (∃ r ∈ (reported 64).link.reports, r.line = .line1) ∧ (holding false).sup.brownout ≠ none := by
  and_intros <;> first | rfl | decide

theorem witness_ReleaseAndShotBase : z.Awake ∧ (∀ e ∈ z.sbm.shots, e = none) ∧ (∀ e ∈ z.sbm.cardIndex, e.shot < 4294967295)
    ∧ ((shoot shot0).Awake ∧ (shoot shot0).Steady ∧ ∃ e ∈ (shoot shot0).sbm.shots, e ≠ none)
    ∧ (let s := { z with sbm := { z.sbm with cardIndex := [{ index0 with shot := 4294967295 }] } }
       s.Awake ∧ s.Steady ∧ s.sbm.highestIndexed = 4294967295) := by
  and_intros <;> first | rfl | exact takes rfl | exact steady rfl rfl | decide

theorem witness_InputsAreDebounced : z.held = false
    ∧ ((candidate .active).held = false ∧ ((candidate .active).cap.debouncer .relHalf).since = some 0) := by decide

/-- A flight of entry 0. -/
def flight0 (readout : Option Nat) (ob : Option (Nat × Nat)) : Flight :=
  { entry := 0, depth := .d12, width := 1024, height := 768, exposureDue := 4000, readoutDue := readout, ob := ob }

/-- The sensor in a state with a flight. -/
def flying (st : SensorState) (f : Flight) : State :=
  { z with cap := { z.cap with sensor := st, warmDue := none, flight := some f, black := some 32752 } }

/-- A SHOT sequence whose frame is pending, with a flash wait that runs. -/
def framed (wait : Wait) (reached : Bool) : State :=
  { z with
    cap := { z.cap with
      sensor := .ready, warmDue := none, liveDue := some 16667, drive := .shot,
      sequence := some ⟨.d12, ⟨0, 0, 1024, 768⟩, .single, 10, 4⟩, frame := some ⟨0, reached, wait, none⟩ } }

/-- A flash pulse. -/
def pulsing (high : Bool) : State := { z with cap := { z.cap with pulse := some ⟨0, 1000⟩, flashSync := high } }

theorem witness_SensorAndFlashTimers : grid0.length = 150 ∧ (z.held = false ∧ z.cap.warmDue = some 12000)
    ∧ ((framed .unstarted true).held = false ∧ (framed .unstarted true).cap.liveDue = some 16667)
    ∧ (framed (.running 1000) true).cap.frame = some ⟨0, true, .running 1000, none⟩
    ∧ ((pulsing false).held = false ∧ (pulsing false).cap.flashSync = false ∧ (pulsing false).cap.pulse = some ⟨0, 1000⟩)
    ∧ ((pulsing true).held = false ∧ (pulsing true).cap.flashSync = true ∧ (pulsing true).cap.pulse = some ⟨0, 1000⟩) := by
  and_intros <;> first | rfl | decide

/-- A shot still in exposure. -/
def exposing0 : Shot := { shot0 with state := .exposing, raw := some { raw0 with complete := false, holds := { fill := true } } }

/-- The raw of a ring frame in flight. -/
def ringRaw : Obj := { raw0 with complete := false, holds := { fill := true, ring := true }, cardBound := false }

/-- A ring entry whose frame is in flight. -/
def ringShot : Shot := { shot0 with state := .ring, number := none, look := none, raw := some ringRaw }

/-- The readout of entry 0 at its end, with a ring. -/
def exposed (sh : Shot) (ring : List Nat) : State :=
  { shoot sh with
    cap := { z.cap with
      sensor := .readout, warmDue := none, flight := some (flight0 (some 29000) (some (512, 8192))), black := some 32752,
      ring := ring } }

/-- RING in ACTIVE power: the ring and the press states. -/
def ringing (ring : List Nat) (full half : Bool) (sh : Shot) : State :=
  { shoot sh with
    sbm := { (shoot sh).sbm with freeList := [2, 3] },
    cap := { z.cap with
      sensor := .ready, warmDue := none, drive := .ring, ring := ring,
      host := if full then .full else if half then .half else .none,
      sequence := some ⟨.d12, ⟨0, 0, 1024, 768⟩, .precapture, 10, 2⟩, frame := some ⟨0, true, .unstarted, none⟩ } }

theorem witness_FramePhasesFollowTheirTimers :
    ((framed .unstarted false).held = false ∧ (framed .unstarted false).cap.frame = some ⟨0, false, .unstarted, none⟩)
    ∧ (let s := flying .exposing (flight0 none none)
       s.held = false ∧ s.cap.sensor = .exposing ∧ s.cap.flight = some (flight0 none none))
    ∧ (let s := flying .readout (flight0 (some 29000) none)
       s.held = false ∧ s.cap.sensor = .readout ∧ s.cap.flight = some (flight0 (some 29000) none))
    ∧ (let s := flying .readout (flight0 (some 29000) (some (512, 8192)))
       s.held = false ∧ s.cap.sensor = .readout ∧ s.cap.flight = some (flight0 (some 29000) (some (512, 8192))))
    ∧ ((exposed exposing0 []).held = false ∧ (exposed exposing0 []).shot 0 = some exposing0 ∧ exposing0.state ≠ .ring)
    ∧ ((exposed ringShot [0]).shot 0 = some ringShot ∧ ringShot.raw = some ringRaw ∧ ringShot.state = .ring ∧ 0 ∈ (exposed ringShot [0]).cap.ring)
    ∧ ((exposed ringShot [1]).shot 0 = some ringShot ∧ 0 ∉ (exposed ringShot [1]).cap.ring) := by
  and_intros <;> first | rfl | decide

/-- Eight quads of 12 bits in a window 16 wide and 2 high, and the 48 bytes they are packed in. -/
theorem witness_FramePhasesFollowTheirTimers_packing :
    let quads : List Quad := List.replicate 8 ⟨4095, 1, 2, 4094⟩
    let extents := [(List.range 48).map (PictData.sensor .d12 16 quads).byteAt]
    7 < quadCount 16 2 ∧ (∀ q ∈ quads, q.r < 2 ^ 12 ∧ q.g1 < 2 ^ 12 ∧ q.g2 < 2 ^ 12 ∧ q.b < 2 ^ 12)
      ∧ ∀ i, i < 16 * 2 * 12 / 8 → (PictData.card extents).byteAt i = (PictData.sensor .d12 16 quads).byteAt i := by
  refine ⟨by decide, fun q h => by rw [List.eq_of_mem_replicate h]; decide, fun i h => ?_⟩
  have e : i / Config.extentBytes = 0 ∧ i % Config.extentBytes = i := by unfold Config.extentBytes; omega
  have h : i < 48 := h
  show cardByte _ i = _
  simp [cardByte, e, h]

/-- The samples of two quads of a window four wide, in data order: R, G1, R, G1 and then G2, B, G2, B (R38). -/
theorem test_sample_order : (List.range 8).map (orderedSample 4 [⟨1, 2, 3, 4⟩, ⟨5, 6, 7, 8⟩]) = [1, 2, 5, 6, 3, 4, 7, 8]
    ∧ [samplePlace 4 1 0 0, samplePlace 4 1 1 1, samplePlace 4 2 0 1] = [2, 7, 9] := by decide

/-- A pending committed frame with exactly the extents it needs left, and the last shot number. -/
def admitted : State :=
  { framed .unstarted true with
    sbm := { (framed .unstarted true).sbm with freeList := [2046, 2047], nextNumber := some 4294967295 } }

theorem witness_AdmittedFrameCommits :
    (∃ f q o w, admitted.cap.frame = some f ∧ f.reached = true ∧ admitted.cap.sequence = some q
      ∧ admitted.cap.drive = .shot ∧ admitted.sup.power = .active ∧ admitted.sup.level = .normal ∧ admitted.cap.sensor = .ready
      ∧ admitted.gateAnswer = .go ∧ admitted.wrapPattern.flashCheck f = .settled o w ∧ admitted.sbm.freeEntry = some 0
      ∧ admitted.sbm.nextNumber = some 4294967295 ∧ extentsFor (rawSize q.depth q.crop) ≤ admitted.sbm.freeList.length)
    ∧ (let s := ringing [0] false true ringShot
       s.cap.frame = some ⟨0, true, .unstarted, none⟩ ∧ s.cap.drive = .ring ∧ s.sup.power = .active ∧ s.sup.level = .normal
       ∧ s.cap.sensor = .ready ∧ s.cap.ring.length < 2 ∧ s.ringLack s.cap.ring.length (rawSize .d12 ⟨0, 0, 1024, 768⟩) = none
       ∧ s.sbm.freeEntry = some 1)
    ∧ (let s := ringing [0] false false ringShot
       s.cap.full = false ∧ s.cap.trigger = false ∧ s.cap.half = false)
    ∧ (ringing [0] true true ringShot).cap.full = true
    ∧ (let sh := { ringShot with raw := some { ringRaw with complete := true, holds := { ring := true } } }
       (ringing [0] false true sh).shot 0 = some sh ∧ (ringing [0] false true sh).cap.flight = none
       ∧ (ringing [0] false true sh).sbm.nextNumber = some 2)
    ∧ ((exposed ringShot [0]).shot 0 = some ringShot ∧ ringRaw.complete = false ∧ ringRaw.holds.fill = true
      ∧ (exposed ringShot [0]).sbm.nextNumber = some 2
      ∧ (exposed ringShot [0]).cap.flight = some (flight0 (some 29000) (some (512, 8192)))) := by
  refine ⟨⟨_, _, .none, .unstarted, rfl, rfl, rfl, ?_⟩, ?_⟩
  all_goals and_intros <;> first | rfl | decide

theorem witness_BlackBaselineStaysInBounds : (32752 : Nat) ≤ 32752 ∧ 32752 ≤ 16 * 2047 ∧ 16 * 0 ≤ 0 := by decide

theorem witness_LensCommandsAndAnswers : (z.Awake ∧ z.foc.line = none ∧ lens0.present = some true)
    ∧ (fitted (some (move0 1)) none).Awake ∧ (fitted (some (move0 1)) none).Steady ∧ (fitted (some (move0 1)) none).foc.line ≠ none
    ∧ ((fitted (some (move0 1)) none).held = false ∧ (fitted (some (move0 1)) none).foc.lens ≠ none
      ∧ (fitted (some (move0 1)) none).foc.line = some (move0 1) ∧ (fitted (some (move0 1)) none).foc.pendingTarget = none)
    ∧ ((fitted none none).foc.line = none ∧ (fitted none none).foc.lens ≠ none)
    ∧ ((fitted (some (move0 1)) (some (11500, .measured))).foc.pendingTarget = some (11500, .measured) ∧ 11500 ≠ 11000)
    ∧ (move0 1).attempt = 1 ∧ (move0 2).attempt ≠ 1 := by
  and_intros <;> first | rfl | exact takes rfl | exact steady rfl rfl | decide

/-- Focus in a state with a lost timer, a focus wait and an in-focus time. -/
def focusing (st : FocusState) : State :=
  { fitted none none with
    foc := { (fitted none none).foc with state := st, lostTime := some (2 ^ 64 - 1), wait := .running 1000, inFocusTime := some 5 } }

/-- The settings of another AF mode. -/
def inMode (m : AfMode) (s : State) : State := { s with settings := { s.settings with af := { s.settings.af with mode := m } } }

/-- A fitted lens at a position, focus in a state, with a sweep. -/
def sweeping (st : FocusState) (position : Nat) (w : Sweep) : State :=
  { fitted none none with foc := { (fitted none none).foc with state := st, position := some position, sweep := some w } }

theorem witness_FocusTimersAct : ((focusing .tracking).held = false ∧ (focusing .tracking).foc.lostTime = some (2 ^ 64 - 1)
      ∧ 2 ^ 64 - 1 < 2 ^ 64 ∧ (focusing .tracking).foc.state = .tracking)
    ∧ (focusing .searching).foc.wait = .running 1000 ∧ ((focusing .driving).foc.inFocusTime = some 5 ∧ 5 + 40001 < 2 ^ 64)
    ∧ ((focusing .locked).foc.state = .locked ∧ (focusing .fault).foc.state = .fault)
    ∧ (let s := { zoned with foc := { zoned.foc with state := .searching } }
       s.foc.state ≠ .idle ∧ s.foc.state ≠ .locked ∧ s.foc.state ≠ .failed ∧ s.chooseZone = some 66)
    ∧ ((focusing .lost).foc.state ≠ .idle ∧ (focusing .lost).foc.state ≠ .locked ∧ (focusing .lost).foc.state ≠ .failed
      ∧ (focusing .lost).chooseZone = none)
    ∧ (let s := inMode .continuous { zoned with foc := { zoned.foc with selected := some ⟨66, 0, 90, 0⟩ } }
       s.settings.af.mode = .continuous ∧ s.foc.selected = some ⟨66, 0, 90, 0⟩)
    ∧ (z.settings.af.mode = .single ∧ z.foc.selected = none)
    ∧ (let s := sweeping .searching 10000 Sweep.start
       s.settings.af.mode = .single ∧ s.foc.lens = some ⟨1000, 60000, 4096, 200⟩ ∧ s.foc.state = .searching ∧ s.foc.line = none
       ∧ s.foc.sweep = some Sweep.start ∧ s.foc.position = some 10000 ∧ Sweep.start.dir = .far ∧ 10000 < 60000
       ∧ 1 ≤ s.settings.af.searchStep)
    ∧ ((sweeping .searching 60000 Sweep.start).foc.position = some 60000
      ∧ (sweeping .searching 1000 ⟨.near, true⟩).foc.position = some 1000 ∧ (1000 : Nat) ≤ 1000 ∧ (1000 : Nat) ≤ 60000
      ∧ (sweeping .driving 1000 ⟨.near, true⟩).foc.state = .driving)
    ∧ ((fitted (some (move0 1)) none).foc.line = some (move0 1))
    ∧ (let s := inMode .continuous (focusing .lost)
       s.settings.af.mode = .continuous ∧ s.foc.lens = some ⟨1000, 60000, 4096, 200⟩ ∧ s.foc.state ≠ .fault ∧ s.foc.line = none
       ∧ s.cap.drive ≠ .burst ∧ s.foc.position ≠ some ((⟨1000, 60000, 4096, 200⟩ : Lens).measuredTarget 10000 5)) := by
  and_intros <;> first | rfl | decide | decide +kernel

theorem witness_ZoneChoiceIsBestNearestLowest : ([66, 67, 95] : List Nat).Pairwise (· < ·) ∧ zoned.bestZone [66, 67, 95] = some 66
    ∧ 14 < 15 ∧ 5 % 2 = 1 ∧ 6 % 2 = 0 ∧ zoned.bestZone [] = none := by
  and_intros <;> first | rfl | decide +kernel

theorem witness_ToneCurveInterpolates : curveOk (List.replicate 17 255) ∧ 65535 / 4096 = 15 ∧ 65535 = 4096 * 15 + 4095 ∧ 0 = 4096 * 0 + 0 :=
  ⟨⟨rfl, fun p hp => by obtain rfl := List.eq_of_mem_replicate hp; decide⟩, rfl, rfl, rfl⟩

/-- A develop job of shot 1. -/
def devJob (k : Pict) : Job := { entry := 0, shot := 1, kind := k, look := ⟨0, .fixed, gains0⟩, urgent := false, returned := false }

/-- A pass of shot 1. -/
def pass0 (o : Output) : Pass :=
  { shot := 1, entry := 0, startTime := 0, endDue := 1000, recipe := ⟨.sensor [], .d12, 1024, 768, 0, gains0, curveFactory, o⟩ }

/-- The engine, its queue and a shot. -/
def developing (e : Engine) (q : List Job) (sh : Shot) : State := { shoot sh with dev := { Dev.reset with queue := q, engine := e } }

/-- The shot with a rendition being filled. -/
def shotR : Shot :=
  { shot0 with rendition := some ⟨1000, [0], false, { fill := true }, some .half, false, .dev, .card []⟩,
               raw := some { raw0 with extents := [1] } }

/-- A merged DEVELOP makes a WAIT_SPACE engine ask again for its head's job alone (R123). -/
theorem test_relook_asks_for_the_head :
    let other := { devJob .rendition with shot := 2, entry := 1 }
    let s := developing (.waitSpace 18 17) [devJob .rendition, other] shot0
    (s.relookJob 1 other.look).notices = [.engineLook] ∧ (s.relookJob 2 other.look).notices = [] := by decide

/-- An extent grant to a recall that leaves the WAIT_SPACE head's job not ready makes the engine look, and no other does
(R106, R112). -/
theorem test_grant_looks_for_the_head :
    let r := card (reading recall0) (developing (.waitSpace 18 17) [devJob .rendition] shot0)
    let s := { r with sbm := { r.sbm with freeList := [5, 6] } }
    (s.reserveRecall .a recall0 0).map (·.notices) = some [.engineLook]
    ∧ (s.reserveRecall .a { recall0 with shot := 2 } 0).map (·.notices) = some [] := by
  and_intros <;> rfl

theorem witness_DevelopCommandAndPassEnds : (z.Awake ∧ z.Steady ∧ z.committed 1 = none)
    ∧ (let s := shoot { shot0 with reinstated := true }
       s.Awake ∧ s.Steady ∧ s.committed 1 = some (0, { shot0 with reinstated := true }))
    ∧ (let s := shoot { shot0 with raw := none }
       s.Awake ∧ s.Steady ∧ s.committed 1 = some (0, { shot0 with raw := none }) ∧ s.rawRecalled 1 = false)
    ∧ (let s := developing .idle [devJob .rendition] shot0
       s.Awake ∧ s.committed 1 = some (0, shot0) ∧ s.dev.queue.any (Job.is 1 .rendition) = true ∧ ∀ asked free, s.dev.engine ≠ .waitSpace asked free)
    ∧ (let s := developing (.waitSpace 18 17) [devJob .rendition] shot0
       s.Awake ∧ s.committed 1 = some (0, shot0) ∧ s.dev.engine = .waitSpace 18 17 ∧ s.headJob = some (devJob .rendition))
    ∧ (let s := developing .idle [devJob .thumb] shot0
       s.Awake ∧ s.committed 1 = some (0, shot0) ∧ s.dev.queue.any (·.shot == 1) = true ∧ s.dev.queue.any (Job.is 1 .rendition) = false)
    ∧ ((shoot shot0).Awake ∧ (shoot shot0).committed 1 = some (0, shot0) ∧ raw0.complete = true
      ∧ (shoot shot0).dev.queue.any (·.shot == 1) = false)
    ∧ (let sh := { shot0 with raw := none }
       let s := card (reading { recall0 with kind := .raw }) (shoot sh)
       s.Awake ∧ s.committed 1 = some (0, sh) ∧ s.rawRecalled 1 = true ∧ s.dev.queue.any (Job.is 1 .rendition) = false)
    ∧ (let s := developing (.thumbPass (pass0 .thumb)) [devJob .thumb] shot0
       s.held = false ∧ s.dev.engine = .thumbPass (pass0 .thumb) ∧ s.dev.queue.find? (Job.is 1 .thumb) = some (devJob .thumb) ∧ s.shot 0 = some shot0)
    ∧ (let s := developing (.renderPass (pass0 (.rendition .half))) [devJob .rendition] shotR
       s.held = false ∧ s.dev.engine = .renderPass (pass0 (.rendition .half)) ∧ s.dev.queue.find? (Job.is 1 .rendition) = some (devJob .rendition)
       ∧ s.shot 0 = some shotR ∧ shotR.rendition ≠ none ∧ shotR.raw ≠ none ∧ shotR.raw.any (·.holds.isEmpty) = false) := by
  and_intros <;> first | rfl | exact takes rfl | exact steady rfl rfl | exact fun _ _ => nofun | decide

theorem witness_ShotCommandsActOnTheEntry :
    (let s := shoot exposing0
     s.Awake ∧ s.committed 1 = some (0, exposing0) ∧ exposing0.deleting = false ∧ exposing0.state ≠ .buffered)
    ∧ (let s := shoot shot0
       s.Awake ∧ s.committed 1 = some (0, shot0) ∧ shot0.obj .raw = some raw0 ∧ ({ raw0.holds with host := false } : HoldSet).isEmpty = false
       ∧ shot0.state = .buffered ∧ shot0.deleting = false ∧ s.jobNames 1 = false ∧ s.itemNames 1 = false ∧ s.recallNames 1 = false
       ∧ ∀ sl, ∀ j ∈ (s.slot sl).queue, j.shot ≠ 1)
    ∧ (let sh := { shot0 with raw := some { raw0 with holds := { host := true } } }
       (shoot sh).Awake ∧ (shoot sh).committed 1 = some (0, sh) ∧ ({ ({ host := true } : HoldSet) with host := false } : HoldSet).isEmpty = true)
    ∧ (let sh := { shot0 with deleting := true }
       (shoot sh).Awake ∧ (shoot sh).Steady ∧ (shoot sh).committed 1 = some (0, sh))
    ∧ (z.Awake ∧ z.Steady ∧ z.committed 1 = none ∧ Pict.raw ≠ .thumb)
    ∧ ((developing .idle [devJob .rendition] shot0).dev.active ≠ some (1, .rendition)
      ∧ (developing .idle [devJob .rendition] shot0).dev.queue.find? (Job.is 1 .rendition) = some (devJob .rendition))
    ∧ (developing (.renderPass (pass0 (.rendition .half))) [devJob .rendition] shotR).dev.active = some (1, .rendition)
    ∧ z.dev.queue.find? (Job.is 1 .rendition) = none
    ∧ ((shoot shot0).shot 0 = some shot0 ∧ shot0.number = some 1)
    ∧ ((shoot shot0).Steady ∧ shot0.obj .rendition = none)
    ∧ (let sh := { shot0 with raw := none }
       (shoot sh).Awake ∧ (shoot sh).Steady ∧ (shoot sh).committed 1 = some (0, sh) ∧ sh.deleting = false ∧ sh.obj .raw = none)
    ∧ ((shoot exposing0).Steady ∧ exposing0.state = .exposing) := by
  and_intros <;> first | rfl | exact takes rfl | exact steady rfl rfl | decide | (intro sl; cases sl <;> exact fun j h => nomatch h)

theorem witness_ObjectsLeaveWithTheirLastHold : (shoot shot0).obj 0 .raw = some raw0
    ∧ (let sh := { shot0 with raw := none }
       (shoot sh).shot 0 = some sh ∧ sh.state = .buffered ∧ sh.number = some 1 ∧ sh.rendition = none ∧ (shoot sh).jobNames 1 = false
       ∧ (shoot sh).itemNames 1 = false ∧ (shoot sh).recallNames 1 = false) := by
  and_intros <;> first | rfl | decide

theorem witness_WindowsAndRecallsAreGranted :
    (let s := card idle0 z
     s.Awake ∧ (s.slot .a).state = .idle ∧ (s.slot .a).mount = some 3 ∧ (s.slot .a).queue = [] ∧ s.sweepOrder = [])
    ∧ (let s := card (writing job0 0) (shoot shot0)
       s.Awake ∧ (s.slot .a).state = .writing ∧ (s.slot .a).mount = some 3)
    ∧ (z.Awake ∧ z.Steady ∧ (z.slot .b).state.writable = false)
    ∧ (let s := { card idle0 z with sbm := { z.sbm with cardIndex := [index0] } }
       s.Awake ∧ s.committed 1 = none ∧ s.crd.a.hasRecall 1 .raw = false ∧ s.crd.b.hasRecall 1 .raw = false
       ∧ ((s.indexOf 1 .raw).filter s.mountedEntry).find? (fun e => (s.slot e.slot).recalls.length < 4) = some index0)
    ∧ ∀ e ∈ z.sbm.cardIndex, e.shot = 1 → e.kind ≠ .raw := by
  and_intros <;> first | rfl | exact takes rfl | exact steady rfl rfl | decide

/-- The last mount number before the wrap, and a card being mounted. -/
def mounting : State :=
  { z with crd := { Crd.reset with a := { CardSlot.absent with state := .mounting, mount := some 65535, mountDue := some 1000000 }, mountCounter := 1 } }

theorem witness_CardsMountAndLeave :
    (let s := { z with crd := { Crd.reset with mountCounter := 65535 } }
     s.held = false ∧ (s.slot .b).state = .absent)
    ∧ (mounting.held = false ∧ (mounting.slot .a).state = .mounting ∧ mounting.sweepOrder = [] ∧ (mounting.slot .a).mountDue = some 1000000)
    ∧ ((card idle0 z).slot .a).state ≠ .absent := by
  and_intros <;> first | rfl | decide

theorem witness_ExtentsAreWrittenAndRead :
    (let s := card (writing job0 0) (shoot shot0)
     s.held = false ∧ (s.slot .a).state = .writing ∧ (s.slot .a).queue = [job0] ∧ job0.stop = false ∧ job0.written + 1 < job0.extents
     ∧ (s.slot .a).recallReserved = false ∧ (s.slot .a).retry < 2)
    ∧ (let j := { job0 with written := 1 }
       let s := card (writing j 1) (shoot shot0)
       s.held = false ∧ (s.slot .a).state = .writing ∧ (s.slot .a).queue = [j] ∧ j.written + 1 = j.extents ∧ j.kind ≠ .thumb
       ∧ s.shot 0 = some shot0 ∧ s.obj 0 .raw = some raw0)
    ∧ (let s := card (writing job0 2) (shoot shot0)
       s.held = false ∧ (s.slot .a).state = .writing ∧ 2 ≤ (s.slot .a).retry)
    ∧ (let s := card (reading { recall0 with retry := 1 }) (shoot shotR)
       s.held = false ∧ (s.slot .a).recalls = [{ recall0 with retry := 1 }] ∧ (s.slot .a).readMark = true ∧ recall0.state = .reading
       ∧ recall0.entry = some 0 ∧ recall0.stop = false ∧ recall0.read + 1 < extentsFor recall0.size)
    ∧ (shotR.rendition).map (·.data) = some (.card [])
    ∧ (let r := { recall0 with read := 1 }
       let s := card (reading r) (shoot shotR)
       s.held = false ∧ (s.slot .a).recalls = [r] ∧ (s.slot .a).readMark = true ∧ r.state = .reading ∧ r.entry = some 0 ∧ r.stop = false
       ∧ extentsFor r.size ≤ r.read + 1 ∧ s.committed 1 = some (0, shotR) ∧ (shotR.obj .rendition).isSome = true) := by
  and_intros <;> first | rfl | decide

theorem witness_ItemsAreMadeMergedAndCancelled :
    (let s := shoot { shot0 with urgent := true }
     s.Awake ∧ s.committed 1 = some (0, { shot0 with urgent := true }) ∧ s.tet.items.find? (Item.is 1 .raw) = none ∧ s.tet.items.length < 128
     ∧ (shot0.obj .raw).any (·.complete) = true)
    ∧ (let s := queued [item0] (shoot shot0)
       s.Awake ∧ s.Steady ∧ s.committed 1 = some (0, shot0) ∧ s.tet.items.find? (Item.is 1 .raw) = some item0
       ∧ s.tet.items.find? (·.number == 1) = some item0 ∧ s.tet.items.find? (·.number == 2) = none)
    ∧ (let s := queued (List.replicate 128 { item0 with shot := 2 }) (shoot shot0)
       s.Awake ∧ s.Steady ∧ (s.committed 1).any (fun e => e.2.unfit) = false ∧ s.tet.items.find? (Item.is 1 .raw) = none ∧ 128 ≤ s.tet.items.length)
    ∧ ((shoot exposing0).Awake ∧ (shoot exposing0).Steady ∧ (shoot exposing0).committed 1 = some (0, exposing0) ∧ exposing0.state ≠ .buffered) := by
  and_intros <;> first | rfl | exact takes rfl | exact steady rfl rfl | decide +kernel

/-- A failed recall removes an item that waits for it, and leaves one that has become READY (R181, R186). -/
theorem test_failed_recall_items : ((queued [{ item0 with state := .waitRecall }] z).failItem item0.number).tet.items = []
    ∧ ((queued [{ item0 with state := .ready }] z).failItem item0.number).tet.items = [{ item0 with state := .ready }] := by
  and_intros <;> rfl

/-- A recalled rendition no one asked for leaves the buffer at its completion; the host's stays with HOST (R24). -/
theorem test_recalled_holds :
    ((shoot shotR).completeRecalled 0 1 .rendition false).obj 0 .rendition = none
    ∧ (((shoot shotR).completeRecalled 0 1 .rendition true).obj 0 .rendition).map (·.holds) = some { host := true } := by
  and_intros <;> rfl

/-- The earliest deadline passes over a KEEP item that has expired, and not over one a merge has made DROP since (R190,
R202). -/
theorem test_earliest_deadline : ({ z.tet with items := [{ item0 with overdue := true }] } : Tet).earliest = none
    ∧ ({ z.tet with items := [{ item0 with overdue := true, policy := .drop, deadline := some 900 }] } : Tet).earliest = some (1, 900) := by
  decide

/-- The fifth extent of a recall from block 1,000 takes the remainder of 10,000 blocks (R152). -/
theorem test_recall_run : ({ recall0 with start := 1000, blocks := 10000, size := 5120000, read := 4 } : Recall).extentRun = ⟨9192, 1808⟩
    ∧ ({ recall0 with start := 1000, blocks := 10000, size := 5120000, read := 3 } : Recall).extentRun = ⟨7144, 2048⟩ := by decide

theorem witness_HandedItemIsFirstInOrder : (queued [{ item0 with priority := 0, seq := 1 }, item0] z).selectItem = some item0
    ∧ z.selectItem = none := by decide

/-- A pull. -/
def pull0 (k : PullKind) : Pull := { id := 65535, kind := k, shot := 1, priority := 31, time := 0 }

/-- An inbox. -/
def inbox (l : List Pull) : State := { z with tet := { z.tet with inbox := l } }

theorem witness_PullsAreAnsweredAndTheLinkRejoined :
    ((inbox [pull0 .list]).Awake ∧ (inbox [pull0 .list]).tet.inbox.find? (·.id == 65535) = some (pull0 .list) ∧ (pull0 .list).kind = .list)
    ∧ ((inbox [pull0 (.pict .raw)]).tet.inbox.find? (·.id == 65535) = some (pull0 (.pict .raw)))
    ∧ (let s := { shoot shot0 with tet := (inbox [pull0 (.pict .raw)]).tet }
       s.Awake ∧ s.tet.inbox.find? (·.id == 65535) = some (pull0 (.pict .raw)) ∧ s.committed 1 = some (0, shot0)
       ∧ s.tet.items.find? (Item.is 1 .raw) = none ∧ s.tet.items.length < 128 ∧ (shot0.obj .raw).any (·.complete) = true)
    ∧ (z.Awake ∧ z.Steady ∧ z.tet.inbox.find? (·.id == 0) = none) ∧ (linked none).tet.heard = true := by
  and_intros <;> first | rfl | exact takes rfl | exact steady rfl rfl | decide

/-- A frame of 64 bytes with the broadcast address and a good check, of no EtherType of the part's. -/
def alien : List Byte := let b : List Byte := List.replicate 12 0xFF ++ List.replicate 48 0; b ++ le 4 (crc32 b).toNat

theorem witness_CarrierAndBeaconsMoveTheLink : (z.held = false ∧ z.tet.carrier = false)
    ∧ ((linked none).held = false ∧ (linked none).tet.carrier = true ∧ (linked none).settings.tether.station ≠ 0
      ∧ (linked none).tet.heard = true ∧ (linked none).tet.lossDue = some 1000000 ∧ (linked none).Steady)
    ∧ judgeFrame (linked none).settings.tether [] = .bad ∧ judgeFrame (linked none).settings.tether alien = .disregarded := by
  and_intros <;> first | decide +kernel | exact steady rfl rfl

theorem witness_StationFramesDriveTheTransfer :
    (let s := linked (some transfer0)
     s.held = false ∧ s.tet.carrier = true ∧ s.settings.tether.station ≠ 0 ∧ s.goodFrame.tet.transfer = some transfer0
     ∧ s.tet.transfer = some transfer0 ∧ transfer0.state = .offered ∧ 0 ≤ transfer0.offered ∧ 64 ≤ 64 ∧ RefuseReason.noSpace ≠ .haveIt)
    ∧ (let s := linked (some sending0)
       s.goodFrame.tet.transfer = some sending0 ∧ s.tet.transfer = some sending0 ∧ sending0.state = .sending
       ∧ sending0.acked < 10 ∧ 10 ≤ sending0.mark ∧ 10 = sending0.segments ∧ s.tet.tec ≤ 256 ∧ sending0.acked ≤ 8 ∧ 9 < sending0.mark)
    ∧ ((linked none).sup.power ≠ .dormant ∧ (∀ q ∈ (linked none).tet.inbox, q.id ≠ 65535)
      ∧ (linked none).settings.tether.autoAnswer (.pict .raw) = false ∧ (linked none).tet.inbox.length < 8) := by
  and_intros <;> first | rfl | decide

theorem witness_TransferTimersThePortAndDeadlines :
    ((linked (some transfer0)).held = false ∧ (linked (some transfer0)).tet.transfer = some transfer0 ∧ transfer0.state = .offered
      ∧ transfer0.ackDue = some 200000)
    ∧ ((linked (some sending0)).tet.transfer = some sending0 ∧ sending0.state = .sending ∧ sending0.ackDue = some 200000)
    ∧ (let s := { z with tet := { z.tet with tx := [.cancel 7] } }
       s.held = false ∧ s.tet.tx = [.cancel 7])
    ∧ (let x := { sending0 with acked := 9, next := 9 }
       let s := linked (some x)
       s.tet.tx = [] ∧ s.tet.transfer = some x ∧ x.next - x.acked < s.effectiveCredit x ∧ x.next < x.segments)
    ∧ (z.tet.tx = [] ∧ z.tet.transfer = none)
    ∧ ((linked (some transfer0)).tet.tx = [] ∧ transfer0.state ≠ .sending)
    ∧ (let x := { sending0 with credit := 2 }
       (linked (some x)).effectiveCredit x ≤ x.next - x.acked) ∧ sending0.segments ≤ sending0.next
    ∧ (let s := queued [item0] (shoot shot0)
       s.held = false ∧ s.tet.items.find? (·.number == 1) = some item0 ∧ item0.deadline = some 1000 ∧ item0.policy = .keep ∧ item0.overdue = false)
    ∧ (let x := { item0 with policy := .drop, deadline := some (2 ^ 64 - 1) }
       (queued [x] (shoot shot0)).tet.items.find? (·.number == 1) = some x ∧ x.policy = .drop ∧ 2 ^ 64 - 1 < 2 ^ 64) := by
  and_intros <;> first | rfl | decide

end Sys2Proof.Tests
end

section
/-! PROOFS. The zone choice (Chapter 3) and the focus state machine with its timers and the gate (Chapter 4). -/

namespace Sys2Proof.Machine.PhaseMeasurement
open Sys2Proof

/-! ### The order of R82 -/

/-- One zone stands no later than another in the order of R82: by confidence, then distance, then number. -/
def NoLater (s : State) (z y : Nat) : Prop :=
  (s.foc.zone y).confidence ≤ (s.foc.zone z).confidence
    ∧ ((s.foc.zone y).confidence = (s.foc.zone z).confidence →
        s.settings.af.area.distance z ≤ s.settings.af.area.distance y
        ∧ (s.settings.af.area.distance y = s.settings.af.area.distance z → z ≤ y))

theorem NoLater.refl (s : State) (z : Nat) : NoLater s z z := ⟨Nat.le_refl _, fun _ => ⟨Nat.le_refl _, fun _ => Nat.le_refl _⟩⟩

theorem NoLater.trans {s : State} {x y z : Nat} (hxy : NoLater s x y) (hyz : NoLater s y z) : NoLater s x z := by
  unfold NoLater at *; omega

/-- A zone of a higher number is chosen exactly when the other does not stand before it. -/
theorem chosenOver_iff (s : State) {best y : Nat} (h : best < y) : s.chosenOver y best = true ↔ ¬ NoLater s best y := by
  simp only [State.chosenOver, NoLater, Bool.or_eq_true, Bool.and_eq_true, decide_eq_true_eq, beq_iff_eq]; omega

/-- The order is total. -/
theorem noLater_of_not {s : State} {y z : Nat} (h : ¬ NoLater s z y) : NoLater s y z := by
  unfold NoLater at *; omega

/-- The better of two zones, the second of the higher number: the step of the choice. -/
def better (s : State) (best y : Nat) : Nat := if s.chosenOver y best then y else best

theorem better_eq_or (s : State) (best y : Nat) : better s best y = best ∨ better s best y = y := by
  unfold better; split <;> simp

theorem better_noLater (s : State) {best y : Nat} (h : best < y) :
    NoLater s (better s best y) best ∧ NoLater s (better s best y) y := by
  unfold better; split
  next chosen => exact ⟨noLater_of_not ((chosenOver_iff s h).mp chosen), .refl s y⟩
  next keep => exact ⟨.refl s best, Classical.not_not.mp (mt (chosenOver_iff s h).mpr keep)⟩

/-- The choice over ascending zones after `best` is one of them and stands no later than any. -/
theorem foldl_better (s : State) (zs : List Nat) : ∀ best, (best :: zs).Pairwise (· < ·) →
    zs.foldl (better s) best ∈ best :: zs ∧ ∀ y ∈ best :: zs, NoLater s (zs.foldl (better s) best) y := by
  induction zs with
  | nil => exact fun best _ => by simpa using NoLater.refl s best
  | cons y zs ih =>
    intro best ascending
    obtain ⟨afterBest, ascendingY⟩ := List.pairwise_cons.mp ascending
    obtain ⟨afterY, ascendingZs⟩ := List.pairwise_cons.mp ascendingY
    have hlt : best < y := afterBest y (by simp)
    obtain ⟨overBest, overY⟩ := better_noLater s hlt
    have ascendingBetter : (better s best y :: zs).Pairwise (· < ·) := by
      refine List.pairwise_cons.mpr ⟨fun x hx => ?_, ascendingZs⟩
      have := afterY x hx
      obtain e | e := better_eq_or s best y <;> omega
    obtain ⟨mem, least⟩ := ih _ ascendingBetter
    rw [List.foldl_cons]
    constructor
    · rcases List.mem_cons.mp mem with chosen | later
      · obtain e | e := better_eq_or s best y <;> rw [chosen, e] <;> simp
      · exact List.mem_cons_of_mem _ (List.mem_cons_of_mem _ later)
    · intro x hx
      have overBetter := least (better s best y) (by simp)
      rcases List.mem_cons.mp hx with rfl | hx
      · exact overBetter.trans overBest
      · rcases List.mem_cons.mp hx with rfl | hx
        · exact overBetter.trans overY
        · exact least x (List.mem_cons_of_mem _ hx)

theorem bestZone_cons (s : State) (z : Nat) (zs : List Nat) : s.bestZone (z :: zs) = some (zs.foldl (better s) z) := rfl

/-- The zone chosen is one of the zones and stands no later than any in the order of R82. -/
theorem bestZone_noLater {s : State} {zs : List Nat} {z : Nat} (ascending : zs.Pairwise (· < ·)) (h : s.bestZone zs = some z) :
    z ∈ zs ∧ ∀ y ∈ zs, NoLater s z y := by
  cases zs with
  | nil => cases h
  | cons x zs =>
    rw [bestZone_cons] at h
    obtain rfl := Option.some.inj h
    exact foldl_better s zs x ascending

theorem bestZone_eq_none_iff (s : State) (zs : List Nat) : s.bestZone zs = none ↔ zs = [] := by
  cases zs <;> simp [State.bestZone]

/-! ### The distance of R82 -/

/-- `apart` is the magnitude of the difference. -/
theorem apart_eq_natAbs (m n : Nat) : apart m n = ((m : Int) - n).natAbs := by unfold apart; omega

theorem zoneColumn_at {x : Nat} (y : Nat) (h : x < 15) : zoneColumn (15 * y + x) = x := by unfold zoneColumn; omega

theorem zoneRow_at {x : Nat} (y : Nat) (h : x < 15) : zoneRow (15 * y + x) = y := by unfold zoneRow; omega

theorem distance_at (a : Area) {x : Nat} (y : Nat) (h : x < 15) :
    a.distance (15 * y + x)
      = max ((2 * (x : Int) + 1 - (2 * a.left + a.width)).natAbs) ((2 * (y : Int) + 1 - (2 * a.top + a.height)).natAbs) := by
  simp only [Area.distance, zoneColumn_at y h, zoneRow_at y h, apart_eq_natAbs]; push_cast; rfl

/-- Settles O46: the choice is a fold that keeps the first in the order of R82. -/
theorem zoneChoiceIsBestNearestLowest : Obligations.ZoneChoiceIsBestNearestLowest :=
  ⟨fun _ _ _ ascending h => bestZone_noLater ascending h, bestZone_eq_none_iff, fun a _ y h => distance_at a y h,
    fun _ _ _ _ => by omega, fun _ _ _ _ _ => by omega⟩

end Sys2Proof.Machine.PhaseMeasurement
end

section
/-! PROOFS. The focus state machine's outcomes, its timers and the gate (Chapter 4). -/

namespace Sys2Proof.Machine.PhaseMeasurement
open Sys2Proof

/-! ### The clock carried to a reading (R205) -/

/-- Carrying the time base to a reading within 64 bits never passes it and never goes back. -/
theorem carryToTime_timeBase (s : State) {t : Nat} (h : t < 2 ^ 64) : (s.carryToTime t).sup.timeBase = max s.sup.timeBase t := by
  unfold State.carryToTime State.elapse timeAfter
  split
  · simp only [State.setSup_sup]; split <;> omega
  · omega

/-- A reading on the way to a later one makes no difference. -/
theorem carryToTime_carryToTime (s : State) {t u : Nat} (htu : t ≤ u) (hu : u < 2 ^ 64) :
    (s.carryToTime t).carryToTime u = s.carryToTime u := by
  by_cases ht : s.sup.timeBase < t
  · have hBase := carryToTime_timeBase s (Nat.lt_of_le_of_lt htu hu)
    rw [Nat.max_eq_right (Nat.le_of_lt ht)] at hBase
    have hElapse : (s.elapse (t - s.sup.timeBase)).sup.timeBase = t := by simpa [State.carryToTime, ht] using hBase
    by_cases hlt : t < u
    · have hParts : s.sup.elapsed + (t - s.sup.timeBase) + (u - t) = s.sup.elapsed + (u - s.sup.timeBase) := by omega
      have hAfter : timeAfter t (u - t) = timeAfter s.sup.timeBase (u - s.sup.timeBase) := by
        unfold timeAfter; split <;> split <;> omega
      simp only [State.carryToTime, if_pos ht, if_pos (Nat.lt_trans ht hlt), hElapse, if_pos hlt]
      simp only [State.elapse, State.setSup_sup] at hElapse ⊢
      simp only [hElapse, hAfter, hParts, State.setSup_setSup]
    · obtain rfl : t = u := by omega
      simp only [State.carryToTime, if_pos ht, hElapse, Nat.lt_irrefl, if_false]
  · simp only [State.carryToTime, if_neg ht]

/-! ### The timers outside the hold -/

theorem timer_of_due {s : State} {due : Option Nat} {d : Nat} (held : s.held = false) (h : due = some d) (act : State → State) :
    s.timer due act = (act (s.carryTo d)).settle := by
  subst h; simp [State.timer, State.event, held]

theorem timeTimer_of_due {s : State} {due : Option Nat} {t : Nat} (held : s.held = false) (h : due = some t) (act : State → State) :
    s.timeTimer due act = (act (s.carryToTime t)).settle := by
  subst h; simp [State.timeTimer, State.event, held]

/-- The subject is lost once the time base has reached the lost time (R93). -/
theorem loseSubject_of_due {s : State} {due : Nat} (h : s.foc.lostTime = some due) (reached : due ≤ s.sup.timeBase)
    (st : s.foc.state = .searching ∨ s.foc.state = .driving ∨ s.foc.state = .tracking) :
    s.loseSubject = (s.setFoc { s.foc with lostTime := none, state := .lost, pendingTarget := none, history := [] }).raise .focusLost
      (lostFields s.foc) := by
  rcases st with st | st | st <;> simp [State.loseSubject, h, st, Nat.not_lt.mpr reached]

theorem exec_lostTimerExpiry {s : State} {due : Nat} (held : s.held = false) (h : s.foc.lostTime = some due) (hdue : due < 2 ^ 64)
    (st : s.foc.state = .searching ∨ s.foc.state = .driving ∨ s.foc.state = .tracking) :
    exec .lostTimerExpiry s
      = .next (((s.carryToTime due).setFoc
          { (s.carryToTime due).foc with lostTime := none, state := .lost, pendingTarget := none, history := [] }).raise .focusLost
            (lostFields s.foc)).settle := by
  have reached : due ≤ (s.carryToTime due).sup.timeBase := by rw [carryToTime_timeBase s hdue]; exact Nat.le_max_right _ _
  have lost := loseSubject_of_due (s := s.carryToTime due) (by simpa using h) reached (by simpa using st)
  have fields : lostFields (s.carryToTime due).foc = lostFields s.foc := by rw [State.carryToTime_foc]
  have timer := timeTimer_of_due held h State.loseSubject
  rw [lost, fields] at timer
  exact congrArg Host.Outcome.next timer

theorem exec_focusWaitExpiry {s : State} {due : Nat} (held : s.held = false) (h : s.foc.wait = .running due) :
    exec .focusWaitExpiry s = .next ((s.carryTo due).setFoc { (s.carryTo due).foc with wait := .expired }).settle :=
  congrArg Host.Outcome.next (timer_of_due held (by rw [h]; rfl) State.expireFocusWait)

/-- The in-focus age fires, and its step ends at the next reading (log entry 24). -/
theorem exec_inFocusAgeExpiry {s : State} {t : Nat} (held : s.held = false) (h : s.foc.inFocusTime = some t) (ht : t + 40001 < 2 ^ 64) :
    exec .inFocusAgeExpiry s = .next (s.carryToTime (t + 40001)).settle := by
  have age : (s.carryToTime (t + 40000)).ageOut = s.carryToTime (t + 40001) := by
    simp only [State.ageOut, State.carryToTime_foc, h]
    exact carryToTime_carryToTime s (by omega) ht
  have timer := timeTimer_of_due held (due := s.foc.staleTime) (t := t + 40000) (by simp [Foc.staleTime, h]) State.ageOut
  rw [age] at timer
  exact congrArg Host.Outcome.next timer

/-! ### The gate (R102) -/

theorem freshFocus_iff (s : State) : s.freshFocus = true ↔ ∃ t, s.foc.inFocusTime = some t ∧ s.sup.timeBase ≤ t + 40000 := by
  simp only [State.freshFocus, Option.any_eq_true, decide_eq_true_eq, Nat.sub_le_iff_le_add, Nat.add_comm]

/-- The gate's list in R102. -/
theorem gateAnswer_eq_go_iff (s : State) : s.gateAnswer = .go ↔
    (s.settings.af.focusWait = 0 ∨ s.settings.af.mode = .off ∨ s.foc.lens = none
      ∨ s.foc.state = .fault ∨ (s.settings.af.mode = .single ∧ s.foc.state = .locked)
      ∨ (s.settings.af.mode = .continuous ∧ s.foc.state = .tracking ∧ ∃ t, s.foc.inFocusTime = some t ∧ s.sup.timeBase ≤ t + 40000)
      ∨ s.foc.wait = .expired) := by
  have answer (c : Bool) : (if c then Gate.go else Gate.hold) = .go ↔ c = true := by cases c <;> simp
  rw [← freshFocus_iff, State.gateAnswer, answer]
  simp [or_assoc, and_assoc]

/-! ### The choice made (R83, R84) -/

theorem chooses_iff (st : FocusState) : st.chooses = true ↔ st ≠ .idle ∧ st ≠ .locked ∧ st ≠ .failed := by cases st <;> decide

theorem choose_of_resting {s : State} (h : s.foc.state = .idle ∨ s.foc.state = .locked ∨ s.foc.state = .failed) : s.choose = s := by
  rcases h with h | h | h <;> simp [State.choose, h, FocusState.chooses]

theorem choose_of_none {s : State} (h : s.foc.state ≠ .idle ∧ s.foc.state ≠ .locked ∧ s.foc.state ≠ .failed)
    (hz : s.chooseZone = none) : s.choose = s.handOutcome none := by
  simp [State.choose, (chooses_iff _).mpr h, hz]

theorem choose_of_some {s : State} {z : Nat} (h : s.foc.state ≠ .idle ∧ s.foc.state ≠ .locked ∧ s.foc.state ≠ .failed)
    (hz : s.chooseZone = some z) :
    s.choose = (s.setFoc { s.foc with selected := some (s.chosen z).1 }).handOutcome (some (s.chosen z)) := by
  simp [State.choose, (chooses_iff _).mpr h, hz]

/-- Neighbours are at most one column and one row apart. -/
theorem near_eq (z y : Nat) :
    near z y = decide (y % 15 ≤ z % 15 + 1 ∧ z % 15 ≤ y % 15 + 1 ∧ y / 15 ≤ z / 15 + 1 ∧ z / 15 ≤ y / 15 + 1) := by
  rw [Bool.eq_iff_iff]
  simp only [near, Bool.and_eq_true, decide_eq_true_eq]
  simp only [apart, zoneColumn, zoneRow]; omega

/-- In CONTINUOUS a neighbour of the selected zone is chosen, where one is eligible. -/
theorem chooseZone_of_selected {s : State} {c : Selected} (mode : s.settings.af.mode = .continuous) (h : s.foc.selected = some c) :
    s.chooseZone = if s.eligibleZones.filter (near c.zone) = [] then s.bestZone s.eligibleZones
      else s.bestZone (s.eligibleZones.filter (near c.zone)) := by
  simp only [State.chooseZone, mode, h]
  split
  next none => rw [if_pos none]
  next some => rw [if_neg some]

theorem chooseZone_of_free {s : State} (h : s.settings.af.mode ≠ .continuous ∨ s.foc.selected = none) :
    s.chooseZone = s.bestZone s.eligibleZones := by
  unfold State.chooseZone; dsimp only; split
  next mode selected => exact absurd h (by simp [mode, selected])
  next => rfl

/-! ### The lens line (R96, R98) -/

/-- The quotient is the nearest, with ties away from zero. -/
theorem steps_nearest (phase : Int) (gain : Nat) :
    2 * (steps phase gain * 4096 - phase * gain).natAbs ≤ 4096
      ∧ (2 * (steps phase gain * 4096 - phase * gain).natAbs = 4096 → (phase * gain).natAbs ≤ (steps phase gain * 4096).natAbs) := by
  have size : (phase * gain).natAbs = phase.natAbs * gain := by rw [Int.natAbs_mul, Int.natAbs_natCast]
  unfold steps; dsimp only
  rw [← size]
  split
  next neg =>
    have : phase * gain ≤ 0 := Int.mul_nonpos_of_nonpos_of_nonneg (Int.le_of_lt neg) (Int.natCast_nonneg gain)
    omega
  next pos =>
    have : 0 ≤ phase * gain := Int.mul_nonneg (Int.not_lt.mp pos) (Int.natCast_nonneg gain)
    omega

/-- A target offered to a QUIET line is sent, unless the lens stands there. -/
theorem offer_of_quiet {s : State} (h : s.foc.line = none) (target : Nat) (k : MoveKind) :
    s.offer target k = if s.foc.position = some target then s else s.sendMove target k := by
  simp [State.offer, h]

/-- All an offer can change: the line, its last kind, the pending target and the count of superseded ones. -/
theorem offer_frame (s : State) (target : Nat) (k : MoveKind) : ∃ line last pend sup,
    s.offer target k
      = s.setFoc { s.foc with line := line, lastMove := last, pendingTarget := pend, superseded := sup } := by
  unfold State.offer State.sendMove
  repeat' split
  all_goals exact ⟨_, _, _, _, rfl⟩

/-! ### Outcomes in SINGLE (R89, R90) -/

theorem handOutcome_of_fault {s : State} (h : s.foc.state = .fault) (c : Option (Selected × Bool)) : s.handOutcome c = s := by
  simp [State.handOutcome, h]

section Single
variable {s : State} {l : Lens} (mode : s.settings.af.mode = .single) (lens : s.foc.lens = some l)
include mode lens

theorem handOutcome_single (h : s.foc.state ≠ .fault) (c : Option (Selected × Bool)) : s.handOutcome c = s.singleOutcome l c := by
  simp [State.handOutcome, h, mode, lens]

theorem handOutcome_single_chosen (st : s.foc.state = .searching ∨ s.foc.state = .driving) (c : Selected) (b : Bool) :
    s.handOutcome (some (c, b)) = s.singleChosen l c b := by
  rcases st with st | st <;> rw [handOutcome_single mode lens (by simp [st])] <;> simp [State.singleOutcome, st]

theorem handOutcome_single_locks (st : s.foc.state = .searching ∨ s.foc.state = .driving) (quiet : s.foc.line = none) (c : Selected) :
    s.handOutcome (some (c, true)) = (s.setFoc { s.foc with state := .locked, pendingTarget := none, sweep := none }).raise
      .focusLocked (lockedFields c s.foc.at) := by
  rw [handOutcome_single_chosen mode lens st]; simp [State.singleChosen, quiet]

theorem handOutcome_single_waits {m : Move} (st : s.foc.state = .searching ∨ s.foc.state = .driving) (out : s.foc.line = some m)
    (c : Selected) :
    s.handOutcome (some (c, true)) = s.setFoc { s.foc with state := .driving, pendingTarget := none, sweep := none } := by
  rw [handOutcome_single_chosen mode lens st]; simp [State.singleChosen, out]

theorem handOutcome_single_drives {p : Nat} (st : s.foc.state = .searching ∨ s.foc.state = .driving) (quiet : s.foc.line = none)
    (pos : s.foc.position = some p) (c : Selected) :
    s.handOutcome (some (c, false)) = s.setFoc
      (if l.measuredTarget p c.phase = p then { s.foc with state := .driving, sweep := none }
       else { s.foc with state := .driving, sweep := none, lastMove := some .measured,
                         line := some { target := l.measuredTarget p c.phase, attempt := 1, answerDue := s.sup.elapsed + 50000 } }) := by
  rw [handOutcome_single_chosen mode lens st]
  simp only [State.singleChosen, Foc.at, pos, Option.getD_some, Bool.false_eq_true, if_false]
  rw [offer_of_quiet (by simpa using quiet)]
  by_cases there : l.measuredTarget p c.phase = p
  · simp [there]
  · simp [there, Ne.symm there, State.sendMove]

theorem handOutcome_single_restarts (st : s.foc.state = .driving) :
    s.handOutcome none = if s.foc.line = none then
      s.setFoc { s.foc with state := .searching, sweep := some { dir := .far, reversed := false } } else s := by
  rw [handOutcome_single mode lens (by simp [st])]
  cases h : s.foc.line <;> simp [State.singleOutcome, st, h, Foc.toSearching, Sweep.start]

end Single

/-! ### The sweep (R90) -/

/-- A move of a sweep as it is sent. -/
theorem offer_sweep {s : State} {p target : Nat} (w : Sweep) (quiet : s.foc.line = none) (pos : s.foc.position = some p)
    (moves : target ≠ p) :
    (s.setFoc { s.foc with sweep := some w }).offer target .sweep = s.setFoc { s.foc with
      sweep := some w, lastMove := some .sweep,
      line := some { target := target, attempt := 1, answerDue := s.sup.elapsed + 50000 } } := by
  rw [offer_of_quiet (by simpa using quiet)]
  simp [pos, moves.symm, State.sendMove]

section Sweeping
variable {s : State} {l : Lens} {w : Sweep} {p : Nat}

theorem handOutcome_searching (mode : s.settings.af.mode = .single) (lens : s.foc.lens = some l) (st : s.foc.state = .searching) :
    s.handOutcome none = s.sweepStep l := by
  rw [handOutcome_single mode lens (by simp [st])]; simp [State.singleOutcome, st]

/-- A step of the sweep that has a target other than the position sends it. -/
theorem sweepStep_of_some {w' : Sweep} {target : Nat} (quiet : s.foc.line = none) (sweep : s.foc.sweep = some w)
    (pos : s.foc.position = some p) (step : w.step l p s.settings.af.searchStep = some (w', target)) (moves : target ≠ p) :
    s.sweepStep l = s.setFoc { s.foc with
      sweep := some w', lastMove := some .sweep,
      line := some { target := target, attempt := 1, answerDue := s.sup.elapsed + 50000 } } := by
  rw [← offer_sweep w' quiet pos moves]
  simp [State.sweepStep, quiet, sweep, Foc.at, pos, step]

theorem sweepStep_of_none (quiet : s.foc.line = none) (sweep : s.foc.sweep = some w) (pos : s.foc.position = some p)
    (step : w.step l p s.settings.af.searchStep = none) :
    s.sweepStep l = (s.setFoc { s.foc with state := .failed, sweep := none }).raise .focusFailed (le 2 p ++ le 4 s.foc.measureCount) := by
  simp [State.sweepStep, quiet, sweep, Foc.at, pos, step, failedFields]

end Sweeping

/-! ### The steps of a sweep within the limits -/

theorem clampTarget_far {l : Lens} {p : Nat} (step : Nat) (h : l.near ≤ p) (h' : p ≤ l.far) :
    l.clampTarget ((p : Int) + step) = min l.far (p + step) := by
  unfold Lens.clampTarget clampInt; omega

theorem clampTarget_near {l : Lens} {p : Nat} (step : Nat) (h : p ≤ l.far) (h' : l.near ≤ l.far) :
    l.clampTarget ((p : Int) - step) = max l.near (p - step) := by
  unfold Lens.clampTarget clampInt; omega

theorem step_far {w : Sweep} {l : Lens} {p : Nat} (step : Nat) (dir : w.dir = .far) (h : l.near ≤ p) (h' : p < l.far) :
    w.step l p step = some (w, min l.far (p + step)) := by
  simp [Sweep.step, dir, h', clampTarget_far step h (Nat.le_of_lt h')]

theorem step_reverses {w : Sweep} {l : Lens} (step : Nat) (dir : w.dir = .far) (h : l.near ≤ l.far) :
    w.step l l.far step = some ({ dir := .near, reversed := true }, max l.near (l.far - step)) := by
  simp [Sweep.step, dir, clampTarget_near step (Nat.le_refl _) h]

theorem step_near {w : Sweep} {l : Lens} {p : Nat} (step : Nat) (dir : w.dir = .near) (h : l.near < p) (h' : p ≤ l.far) :
    w.step l p step = some (w, max l.near (p - step)) := by
  simp [Sweep.step, dir, h, clampTarget_near step h' (Nat.le_trans (Nat.le_of_lt h) h')]

theorem step_fails {w : Sweep} {l : Lens} (step : Nat) (dir : w.dir = .near) : w.step l l.near step = none := by
  simp [Sweep.step, dir]

/-! ### Outcomes in CONTINUOUS (R92, R97) -/

theorem handOutcome_continuous_chosen {s : State} {l : Lens} (mode : s.settings.af.mode = .continuous) (lens : s.foc.lens = some l)
    (h : s.foc.state ≠ .fault) (c : Selected) (b : Bool) : s.handOutcome (some (c, b)) = s.continuousChosen l c b := by
  simp [State.handOutcome, State.continuousOutcome, h, mode, lens]

theorem handOutcome_continuous_none {s : State} {l : Lens} (mode : s.settings.af.mode = .continuous) (lens : s.foc.lens = some l) :
    s.handOutcome none = if s.foc.state = .driving ∨ s.foc.state = .tracking then
      s.setFoc { s.foc with state := .searching, sweep := none } else s := by
  cases st : s.foc.state <;> simp [State.handOutcome, State.continuousOutcome, st, mode, lens, Foc.toSearching]

/-- The focus unit once the choice has joined the history and before its target is offered. -/
def joined (s : State) (l : Lens) (c : Selected) (b : Bool) : Foc :=
  { s.foc with state := if b then .tracking else .driving,
               history := pushHistory s.foc.history (c.time, l.measuredTarget s.foc.at c.phase),
               lostTime := some (c.time + 300000),
               inFocusTime := if b then some c.time else s.foc.inFocusTime }

/-- What CHOSEN offers is the predicted target where one applies, else the measured one. -/
theorem continuousChosen_eq_offer (s : State) (l : Lens) (c : Selected) (b : Bool) :
    ∃ target k, s.continuousChosen l c b = (s.setFoc (joined s l c b)).offer target k := by
  unfold State.continuousChosen; dsimp only
  split <;> exact ⟨_, _, rfl⟩

/-- Outside a burst nothing is predicted. -/
theorem prediction_of_no_burst {s : State} (h : s.cap.drive ≠ .burst) (l : Lens) (past : List (Nat × Nat)) : s.prediction l past = none := by
  simp [State.prediction, State.nextOpportunity, h]

theorem continuousChosen_of_no_burst {s : State} (h : s.cap.drive ≠ .burst) (l : Lens) (c : Selected) (b : Bool) :
    s.continuousChosen l c b = (s.setFoc (joined s l c b)).offer (l.measuredTarget s.foc.at c.phase) .measured := by
  simp only [State.continuousChosen, prediction_of_no_burst h, joined]

theorem continuousChosen_sends {s : State} {l : Lens} {c : Selected} (h : s.cap.drive ≠ .burst) (b : Bool) (quiet : s.foc.line = none)
    (away : s.foc.position ≠ some (l.measuredTarget s.foc.at c.phase)) :
    s.continuousChosen l c b = (s.setFoc (joined s l c b)).sendMove (l.measuredTarget s.foc.at c.phase) .measured := by
  rw [continuousChosen_of_no_burst h, offer_of_quiet (by simpa [joined] using quiet), if_neg (by simpa [joined] using away)]

/-- The state and the record of the subject after CHOSEN, whatever the line makes of the target. -/
theorem continuousChosen_record (s : State) (l : Lens) (c : Selected) (b : Bool) :
    let x := s.continuousChosen l c b
    x.foc.state = (if b then .tracking else .driving)
      ∧ x.foc.history = pushHistory s.foc.history (c.time, l.measuredTarget s.foc.at c.phase)
      ∧ x.foc.lostTime = some (c.time + 300000) ∧ x.foc.inFocusTime = (if b then some c.time else s.foc.inFocusTime)
      ∧ x.foc.zones = s.foc.zones ∧ x.link = s.link := by
  obtain ⟨target, k, offered⟩ := continuousChosen_eq_offer s l c b
  obtain ⟨line, last, pend, sup, frame⟩ := offer_frame (s.setFoc (joined s l c b)) target k
  simp only [offered, frame]; exact ⟨rfl, rfl, rfl, rfl, rfl, rfl⟩

/-! ### The obligation -/

/-- Settles O45, clause by clause: the timers and the gate, the choice, SINGLE with its sweep, CONTINUOUS. -/
theorem focusTimersAct : Obligations.FocusTimersAct := by
  refine ⟨fun _ _ held h hdue st => exec_lostTimerExpiry held h hdue st, fun _ _ held h => exec_focusWaitExpiry held h,
    fun _ _ held h ht => exec_inFocusAgeExpiry held h ht, gateAnswer_eq_go_iff, fun _ h => choose_of_resting h,
    fun _ h hz => choose_of_none h hz, fun _ _ h hz => choose_of_some h hz, ?neighbourhood, fun _ h => chooseZone_of_free h,
    fun _ c h => handOutcome_of_fault h c, fun _ _ c mode lens st quiet => handOutcome_single_locks mode lens st quiet c,
    fun _ _ _ c mode lens st out => handOutcome_single_waits mode lens st out c, ?measured, ?sweep,
    fun _ _ mode lens st => handOutcome_single_restarts mode lens st, ?continuous,
    fun _ _ mode lens => handOutcome_continuous_none mode lens⟩
  case neighbourhood =>
    intro s c mode selected
    rw [chooseZone_of_selected mode selected, funext (near_eq c.zone)]
  case measured =>
    intro s l c p mode lens _ st quiet pos
    obtain ⟨nearest, tie⟩ := steps_nearest c.phase l.gain
    exact ⟨steps c.phase l.gain, nearest, tie, handOutcome_single_drives mode lens st quiet pos c⟩
  case sweep =>
    intro s l w p mode lens st quiet sweep pos near far range positive
    rw [handOutcome_searching mode lens st]
    refine ⟨fun dir lt => ?_, ?_, fun dir lt => ?_, ?_⟩
    · exact sweepStep_of_some quiet sweep pos (step_far _ dir near lt) (by omega)
    · rintro dir rfl
      exact sweepStep_of_some quiet sweep pos (step_reverses _ dir near) (by omega)
    · exact sweepStep_of_some quiet sweep pos (step_near _ dir lt far) (by omega)
    · rintro dir rfl
      exact sweepStep_of_none quiet sweep pos (step_fails _ dir)
  case continuous =>
    intro s l c b mode lens st
    rw [handOutcome_continuous_chosen mode lens st]
    obtain ⟨state, history, lost, inFocus, zones, link⟩ := continuousChosen_record s l c b
    refine ⟨state, history, lost, inFocus, zones, link, fun quiet noBurst away => ?_⟩
    rw [continuousChosen_sends noBurst b quiet away]
    exact ⟨rfl, rfl⟩

end Sys2Proof.Machine.PhaseMeasurement
end

section
/-! PROOFS. A step's end in a steady state, and the lens: SET_LENS and the lens line (Chapter 4). -/

namespace Sys2Proof.Machine.LensDrive
open Sys2Proof

/-! ### The end of a step (R87, R102; log entry 6) -/

/-- A steady state is a fixed point of the work done at a step's end, whatever its bound. -/
theorem drain_of_steady {s : State} (h : s.Steady) (fuel : Nat) : s.drain fuel = s := by
  obtain ⟨noNotices, upToDate⟩ := h
  cases fuel with
  | zero => exact upToDate
  | succ fuel => simp only [State.drain, upToDate, noNotices]

/-- Settles O5: a step's end finds focus and the gate up to date and no notice to handle. -/
theorem steadyStepEndChangesNothing : Obligations.SteadyStepEndChangesNothing := fun _ h => drain_of_steady h 4096

/-! ### What a step's end leaves of the lens -/

theorem settle_lens (s : State) : s.settle.foc.lens = s.foc.lens := congrArg Kept.lens s.settle_kept
theorem settle_position (s : State) : s.settle.foc.position = s.foc.position := congrArg Kept.position s.settle_kept
theorem settle_lastMove (s : State) : s.settle.foc.lastMove = s.foc.lastMove := congrArg Kept.lastMove s.settle_kept
theorem settle_zones (s : State) : s.settle.foc.zones = s.foc.zones := congrArg Kept.zones s.settle_kept
theorem settle_settings (s : State) : s.settle.settings = s.settings := congrArg Kept.settings s.settle_kept
theorem settle_sup (s : State) : s.settle.sup = s.sup := congrArg Kept.sup s.settle_kept
theorem settle_replies (s : State) : s.settle.link.replies = s.link.replies := congrArg Kept.replies s.settle_kept

/-! ### Commands taken and events outside the hold (R209, R213, R221) -/

theorem deaf_of_takes {s : State} (h : s.Takes) : s.link.deaf = false := by
  simp [Link.deaf, h.noReset, Config.replyQueue, Nat.not_le.mpr h.room]

/-- A command taken outside DORMANT acts, the step is carried to its end, and the reply joins its queue. -/
theorem take_of_awake {s : State} (h : s.Awake) (kind tag : Nat) (awake : Bool) (act : State → Answer) :
    s.take kind tag awake act = (act s).state.settle.pushReply (replyKind kind) tag (act s).status (act s).rest := by
  obtain ⟨takes, notDormant⟩ := h
  simp [State.take, takes.running, deaf_of_takes takes, notDormant]

theorem event_of_running {s : State} (held : s.held = false) (act : State → State) : s.event act = (act s).settle := by
  simp [State.event, held]

/-! ### SET_LENS (R95) -/

theorem exec_setLens {s : State} (h : s.Awake) (tag : Nat) (a : LensArgs) :
    exec (.setLens tag a) s = .next ((s.setLens a).state.settle.pushReply 0xA9 tag (s.setLens a).status (s.setLens a).rest) :=
  congrArg Host.Outcome.next (take_of_awake h 0x29 tag true fun x => x.setLens a)

theorem setLens_fits {s : State} {a : LensArgs} (quiet : s.foc.line = none) (present : a.present = some true) :
    s.setLens a = { state := s.fitLens (some a.used.1) (some a.used.2), status := .clamped (a.used != a.sent),
                    rest := lensReply (some a.used) } := by
  simp [State.setLens, quiet, present]

theorem setLens_removes {s : State} {a : LensArgs} (quiet : s.foc.line = none) (absent : a.present = some false) :
    s.setLens a = { state := s.fitLens none none, status := .ok, rest := lensReply none } := by
  simp [State.setLens, quiet, absent]

theorem setLens_of_moving {s : State} {a : LensArgs} (moving : s.foc.line ≠ none) (flag : a.present ≠ none) :
    s.setLens a = { state := s, status := .state } := by
  obtain ⟨present, hp⟩ := Option.ne_none_iff_exists'.mp flag
  simp [State.setLens, hp, Option.isSome_iff_ne_none.mpr moving]

theorem clamped_eq_ok_iff (c : Bool) : Status.clamped c = .ok ↔ c = false := by cases c <;> simp [Status.clamped]

/-- The lens, position and last kind after SET_LENS, and what fitting or removing a lens leaves alone. -/
theorem fitLens_settled (s : State) (lens : Option Lens) (position : Option Nat) :
    let t := (s.fitLens lens position).settle
    t.foc.lens = lens ∧ t.foc.position = position ∧ t.foc.lastMove = none ∧ t.settings = s.settings ∧ t.sup = s.sup
      ∧ t.foc.zones = s.foc.zones ∧ t.link.replies = s.link.replies :=
  ⟨settle_lens _, settle_position _, settle_lastMove _, settle_settings _, settle_sup _, settle_zones _, settle_replies _⟩

/-! ### The lens line (R98, R99, R100, R101) -/

theorem lensMoves_of_moving {s : State} {m : Move} (fitted : s.foc.lens ≠ none) (moving : s.foc.line = some m) :
    s.lensMoves = s.setFoc { s.foc with line := some { m with attempt := 1, answerDue := s.sup.elapsed + 50000 } } := by
  obtain ⟨l, hl⟩ := Option.ne_none_iff_exists'.mp fitted
  simp only [State.lensMoves, hl, moving]

theorem lensSettles_of_quiet {s : State} (fitted : s.foc.lens ≠ none) (quiet : s.foc.line = none) (position : Nat) :
    s.lensSettles position = s.setFoc { s.foc with position := some position } := by
  obtain ⟨l, hl⟩ := Option.ne_none_iff_exists'.mp fitted
  simp only [State.lensSettles, hl, quiet]

/-- SETTLED with no target pending leaves the line QUIET. -/
theorem lensSettles_of_moving {s : State} {m : Move} (fitted : s.foc.lens ≠ none) (moving : s.foc.line = some m)
    (noneWaits : s.foc.pendingTarget = none) (position : Nat) :
    s.lensSettles position = s.setFoc { s.foc with position := some position, line := none } := by
  obtain ⟨l, hl⟩ := Option.ne_none_iff_exists'.mp fitted
  simp only [State.lensSettles, hl, moving, noneWaits]

/-- SETTLED frees the line, and a target pending for another position is sent at once. -/
theorem lensSettles_of_pending {s : State} {m : Move} {position target : Nat} {k : MoveKind} (fitted : s.foc.lens ≠ none)
    (moving : s.foc.line = some m) (waits : s.foc.pendingTarget = some (target, k)) (away : target ≠ position) :
    s.lensSettles position
      = (s.setFoc { s.foc with position := some position, line := none, pendingTarget := none }).sendMove target k := by
  obtain ⟨l, hl⟩ := Option.ne_none_iff_exists'.mp fitted
  simp only [State.lensSettles, hl, moving, waits]
  have elsewhere : some position ≠ some target := fun same => away (Option.some.inj same).symm
  rw [PhaseMeasurement.offer_of_quiet rfl]
  exact if_neg elsewhere

/-- The answer timer's first expiry repeats the move (R100). -/
theorem lensTimeout_first {s : State} {m : Move} (moving : s.foc.line = some m) (first : m.attempt = 1) :
    s.lensTimeout = s.setFoc { s.foc with
      line := some { m with attempt := 2, answerDue := s.sup.elapsed + 50000 }, repeats := next32 s.foc.repeats } := by
  simp only [State.lensTimeout, moving, if_pos first]

/-- A later expiry ends the move in FAULT (R100). -/
theorem lensTimeout_again {s : State} {m : Move} (moving : s.foc.line = some m) (again : m.attempt ≠ 1) :
    s.lensTimeout
      = (s.setFoc { s.foc with line := none, pendingTarget := none, state := .fault, lostTime := none, sweep := none }).raise
          .lensFault (faultFields m.target (s.foc.position.getD 0)) := by
  simp only [State.lensTimeout, moving, if_neg again, Foc.at]

theorem exec_lensMoving {s : State} (held : s.held = false) : exec .lensMoving s = .next s.lensMoves.settle :=
  congrArg Host.Outcome.next (event_of_running held State.lensMoves)

theorem exec_lensSettled {s : State} (held : s.held = false) (position : Nat) :
    exec (.lensSettled position) s = .next (s.lensSettles position).settle :=
  congrArg Host.Outcome.next (event_of_running held fun x => x.lensSettles position)

/-- The answer timer's expiry carries the clock to its moment. -/
theorem exec_lensAnswerTimeout {s : State} {m : Move} (held : s.held = false) (moving : s.foc.line = some m) :
    exec .lensAnswerTimeout s = .next (s.carryTo m.answerDue).lensTimeout.settle :=
  congrArg Host.Outcome.next (PhaseMeasurement.timer_of_due held (by rw [moving]; rfl) State.lensTimeout)

/-! ### The obligation -/

/-- Settles O44: SET_LENS by its three outcomes and the lens line by its events, each carried to the step's end. -/
theorem lensCommandsAndAnswers : Obligations.LensCommandsAndAnswers := by
  unfold Obligations.LensCommandsAndAnswers
  refine ⟨?fits, ?removes, ?refuses, ?moving, ?settledQuiet, ?settled, ?settledPending, ?firstExpiry, ?secondExpiry⟩
  case fits =>
    intro s tag a awake quiet present
    obtain ⟨lens, position, lastMove, settings, sup, zones, replies⟩ := fitLens_settled s (some a.used.1) (some a.used.2)
    have answer := exec_setLens awake tag a
    rw [setLens_fits quiet present] at answer
    exact ⟨_, _, answer, lens, position, lastMove, settings, sup, zones, by rw [State.pushReply_replies, replies]; rfl,
      (clamped_eq_ok_iff _).trans bne_eq_false_iff_eq⟩
  case removes =>
    intro s tag a awake quiet absent
    obtain ⟨lens, position, lastMove, settings, _, _, replies⟩ := fitLens_settled s none none
    have answer := exec_setLens awake tag a
    rw [setLens_removes quiet absent] at answer
    exact ⟨_, answer, lens, position, lastMove, settings, by rw [State.pushReply_replies, replies]; rfl⟩
  case refuses =>
    intro s tag a awake steady moving flag
    rw [exec_setLens awake, setLens_of_moving moving flag, steadyStepEndChangesNothing s steady]
  case moving =>
    intro s m held fitted moving
    rw [exec_lensMoving held, lensMoves_of_moving fitted moving]; rfl
  case settledQuiet =>
    intro s position held fitted quiet
    rw [exec_lensSettled held, lensSettles_of_quiet fitted quiet]; rfl
  case settled =>
    intro s m position held fitted moving noneWaits
    rw [exec_lensSettled held, lensSettles_of_moving fitted moving noneWaits]; rfl
  case settledPending =>
    intro s m position target k held fitted moving waits away
    rw [exec_lensSettled held, lensSettles_of_pending fitted moving waits away]; rfl
  case firstExpiry =>
    intro s m held moving first
    rw [exec_lensAnswerTimeout held moving, lensTimeout_first (by rwa [State.carryTo_foc]) first,
      ← State.carryTo_foc s m.answerDue]; rfl
  case secondExpiry =>
    intro s m held moving again
    rw [exec_lensAnswerTimeout held moving, lensTimeout_again (by rwa [State.carryTo_foc]) again,
      ← State.carryTo_foc s m.answerDue]; rfl

end Sys2Proof.Machine.LensDrive
end

section
/-! PROOFS. The tone curve, DEVELOP by its cases, and the ends of passes (Chapter 5). -/

namespace Sys2Proof.Machine.Development
open Sys2Proof LensDrive

/-! ### The tone curve (R126) -/

theorem toNat_clampInt_byte (z : Int) : ((clampInt 0 255 z).toNat : Int) = max 0 (min 255 z) := by
  unfold clampInt; omega

theorem toNat_clampInt_le (z : Int) : (clampInt 0 255 z).toNat ≤ 255 := by unfold clampInt; omega

/-- No output leaves a byte's range, whatever the curve. -/
theorem toneCurve_le (t : List Nat) (l : Nat) : toneCurve t l ≤ 255 := toNat_clampInt_le _

/-- Division by the positive 4,096 rounds toward minus infinity. -/
theorem toneCurve_eq_floor (t : List Nat) (k : Nat) {f : Nat} (hf : f < 4096) :
    (toneCurve t (4096 * k + f) : Int)
      = max 0 (min 255 ((t.getD k 0 : Int) + (((t.getD (k + 1) 0 : Int) - t.getD k 0) * f + 2048).fdiv 4096)) := by
  have segment : (4096 * k + f) / 4096 = k := by omega
  have offset : (4096 * k + f) % 4096 = f := by omega
  rw [Int.fdiv_eq_ediv_of_nonneg _ (by decide)]
  simp only [toneCurve, segment, offset, toNat_clampInt_byte]

theorem getD_le_of_curveOk {t : List Nat} (h : curveOk t) (k : Nat) : t.getD k 0 ≤ 255 := by
  obtain ⟨_, points⟩ := h
  rw [List.getD_eq_getElem?_getD]
  cases point : t[k]? with
  | none => exact Nat.zero_le _
  | some p => exact points p (List.mem_of_getElem? point)

/-- At the start of a segment the output is the segment's first point. -/
theorem toneCurve_at_point {t : List Nat} (h : curveOk t) (k : Nat) : toneCurve t (4096 * k) = t.getD k 0 := by
  have floor := toneCurve_eq_floor t k (f := 0) (by decide)
  have start : ((t.getD (k + 1) 0 : Int) - t.getD k 0) * (0 : Nat) + 2048 = 2048 := by simp
  have noStep : Int.fdiv 2048 4096 = 0 := by decide
  rw [start, noStep] at floor
  have byte := getD_le_of_curveOk h k
  simp only [Nat.add_zero] at floor
  omega

/-- Settles O47: every segment by floor rounding, then the two ends. -/
theorem toneCurveInterpolates : Obligations.ToneCurveInterpolates := by
  refine ⟨?segment, fun t h => toneCurve_at_point h 0, rfl, rfl, by decide⟩
  case segment =>
    rintro t l k f - hl hk rfl hf
    exact ⟨by omega, toneCurve_le t _, toneCurve_eq_floor t k hf⟩

/-! ### DEVELOP taken (R123) -/

theorem exec_develop {s : State} (h : s.Awake) (tag n look : Nat) :
    exec (.develop tag n look) s
      = .next ((s.develop n look).state.settle.pushReply 0xC2 tag (s.develop n look).status (s.develop n look).rest) :=
  congrArg Host.Outcome.next (take_of_awake h 0x42 tag true fun x => x.develop n look)

/-- A refusal in a steady state adds its reply alone. -/
theorem exec_develop_refused {s : State} {n look : Nat} {status : Status} (h : s.Awake) (steady : s.Steady)
    (refused : s.develop n look = s.refuse status) (tag : Nat) :
    exec (.develop tag n look) s = .next (s.pushReply 0xC2 tag status []) := by
  rw [exec_develop h, refused, State.refuse, steadyStepEndChangesNothing s steady]

theorem exec_develop_done {s t : State} {n look : Nat} {status : Status} (h : s.Awake)
    (done : s.develop n look = { state := t, status := status }) (tag : Nat) :
    exec (.develop tag n look) s = .next (t.settle.pushReply 0xC2 tag status []) := by
  rw [exec_develop h, done]

theorem develop_of_uncommitted {s : State} {n look : Nat} (slot : look < 8) (absent : s.committed n = none) :
    s.develop n look = s.refuse .noShot := by
  simp [State.develop, lookSlots, Nat.not_le.mpr slot, absent]

theorem develop_of_committed {s : State} {n look i : Nat} {sh : Shot} (slot : look < 8) (found : s.committed n = some (i, sh)) :
    s.develop n look = s.developShot i n sh (s.settings.slotLook look) := by
  simp [State.develop, lookSlots, Nat.not_le.mpr slot, found]

theorem developShot_of_unfit {s : State} {sh : Shot}
    (h : sh.state ≠ .buffered ∨ sh.deleting = true ∨ sh.reinstated = true ∨ sh.rendition ≠ none) (i n : Nat) (look : JobLook) :
    s.developShot i n sh look = s.refuse .state := by
  unfold State.developShot
  split
  next => rfl
  next fit =>
    simp only [Bool.or_eq_true, bne_iff_ne, not_or] at fit
    obtain ⟨⟨buffered, undeleted⟩, original⟩ := fit
    have rendition : sh.rendition ≠ none :=
      ((h.resolve_left buffered).resolve_left undeleted).resolve_left original
    rw [if_pos (Option.isSome_iff_ne_none.mpr rendition)]

/-- A shot that DEVELOP takes, leaving its raw aside. -/
structure Fit (sh : Shot) : Prop where
  buffered : sh.state = .buffered
  undeleted : sh.deleting = false
  original : sh.reinstated = false
  noRendition : sh.rendition = none

theorem developShot_of_noRaw {s : State} {n : Nat} {sh : Shot} (fit : Fit sh) (noRaw : sh.raw = none)
    (noRecall : s.rawRecalled n = false) (i : Nat) (look : JobLook) : s.developShot i n sh look = s.refuse .noRaw := by
  simp [State.developShot, fit.buffered, fit.undeleted, fit.original, fit.noRendition, noRaw, noRecall]

theorem developShot_of_queued {s : State} {n : Nat} {sh : Shot} (fit : Fit sh) (raw : sh.raw ≠ none ∨ s.rawRecalled n = true)
    (queued : s.dev.queue.any (Job.is n .rendition) = true) (i : Nat) (look : JobLook) :
    s.developShot i n sh look = { state := s.relookJob n look, status := .okMerged } := by
  have source : (sh.raw.isNone && !s.rawRecalled n) = false := by rcases raw with raw | raw <;> simp [raw]
  simp [State.developShot, fit.buffered, fit.undeleted, fit.original, fit.noRendition, source, queued]

/-! ### A queued job takes the new look -/

theorem jobIs_iff (n : Nat) (k : Pict) (j : Job) : Job.is n k j = true ↔ j.shot = n ∧ j.kind = k := by
  simp [Job.is]

/-- The merge changes looks in place, and then the engine looks where it waits for this shot's job. -/
theorem relookJob_eq (s : State) (n : Nat) (look : JobLook) :
    s.relookJob n look
      = ({ s with dev := { s.dev with queue := s.dev.queue.map fun j : Job =>
          if j.shot = n ∧ j.kind = Pict.rendition then { j with look := look } else j } }).lookIf (s.waitsFor n) := by
  simp only [State.relookJob, jobIs_iff]; rfl

theorem waitsFor_of_other {s : State} {n : Nat}
    (h : (∀ asked free, s.dev.engine ≠ .waitSpace asked free) ∨ s.headJob.any (Job.is n .rendition) = false) :
    s.waitsFor n = false := by
  unfold State.waitsFor
  split
  next asked free waits => exact h.resolve_left fun never => never asked free waits
  all_goals rfl

theorem waitsFor_of_head {s : State} {n asked free : Nat} {j : Job} (waits : s.dev.engine = .waitSpace asked free)
    (head : s.headJob = some j) (own : Job.is n .rendition j = true) : s.waitsFor n = true := by
  simp [State.waitsFor, waits, head, own]

theorem any_of_headJob {s : State} {p : Job → Bool} {j : Job} (head : s.headJob = some j) (hp : p j = true) :
    s.dev.queue.any p = true :=
  List.any_eq_true.mpr ⟨j, List.mem_of_find?_eq_some head, hp⟩

/-! ### A new job joins (R106 to R108) -/

theorem number_of_committed {s : State} {n i : Nat} {sh : Shot} (h : s.committed n = some (i, sh)) : sh.number = some n := by
  unfold State.committed at h
  split at h
  next => cases h
  next k found =>
    obtain ⟨sh', shot, same⟩ := Option.map_eq_some_iff.mp h
    cases same
    obtain ⟨inside, holds⟩ := List.findIdx?_eq_some_iff_getElem.mp found
    have entry : s.sbm.shots[i] = some sh :=
      Option.some.inj ((List.getElem?_eq_getElem inside).symm.trans (Sbm.shot_get shot))
    have isNumber := holds.1
    rw [entry] at isNumber
    simp only [isCommitted, Option.any_some, Bool.and_eq_true, beq_iff_eq] at isNumber
    exact isNumber.2

/-- The RENDITION job DEVELOP makes. -/
def newJob (i n : Nat) (sh : Shot) (look : JobLook) : Job :=
  { entry := i, shot := n, kind := .rendition, look := look, urgent := sh.urgent, returned := false }

theorem developShot_of_unqueued {s : State} {n i : Nat} {sh : Shot} (fit : Fit sh) (found : s.committed n = some (i, sh))
    (raw : sh.raw ≠ none ∨ s.rawRecalled n = true) (unqueued : s.dev.queue.any (Job.is n .rendition) = false) (look : JobLook) :
    s.developShot i n sh look = { state := s.addJob (newJob i n sh look), status := .ok } := by
  have source : (sh.raw.isNone && !s.rawRecalled n) = false := by rcases raw with raw | raw <;> simp [raw]
  have judged : s.judgeJob n sh .rendition = .queued := by
    simp [State.judgeJob, fit.undeleted, fit.original, fit.noRendition, source, unqueued]
  obtain ⟨shot, _⟩ := State.committed_shot found
  simp [State.developShot, fit.buffered, fit.undeleted, fit.original, fit.noRendition, source, unqueued,
    State.requestJob, shot, number_of_committed found, judged, newJob]

/-- Whether or not it is the shot's first, a job places no hold where DEVELOP has no COMPLETE raw to be placed on. -/
theorem addJob_unplaced {s : State} {j : Job}
    (h : s.dev.queue.any (·.shot == j.shot) = true ∨ (s.obj j.entry .raw).any (·.complete) = false) :
    s.addJob j = ({ s with dev := { s.dev with queue := insertJob j s.dev.queue } }).notify .engineLook := by
  have unplaced : (if !s.jobNames j.shot then (s.setDev { s.dev with queue := insertJob j s.dev.queue }).placeDevelop j.entry
      else s.setDev { s.dev with queue := insertJob j s.dev.queue }) = s.setDev { s.dev with queue := insertJob j s.dev.queue } := by
    split
    next first =>
      have incomplete := h.resolve_left (by simpa [State.jobNames] using first)
      exact if_neg (by simpa [State.obj, State.shot] using incomplete)
    next => rfl
  exact congrArg (State.notify · .engineLook) unplaced

/-- The first job of a shot places DEVELOP on its COMPLETE raw (R20). -/
theorem addJob_places {s : State} {j : Job} (first : s.dev.queue.any (·.shot == j.shot) = false)
    (complete : (s.obj j.entry .raw).any (·.complete) = true) :
    s.addJob j = (({ s with dev := { s.dev with queue := insertJob j s.dev.queue } }).mapShot j.entry
      fun x : Shot => { x with raw := x.raw.map fun y : Obj => { y with holds := { y.holds with develop := true } } }).notify
        .engineLook := by
  have isFirst : (!s.jobNames j.shot) = true := by simpa [State.jobNames] using first
  have placed : (s.setDev { s.dev with queue := insertJob j s.dev.queue }).placeDevelop j.entry
      = (s.setDev { s.dev with queue := insertJob j s.dev.queue }).place j.entry .raw .develop := if_pos complete
  simp only [State.addJob, isFirst, if_true, placed]; rfl

theorem obj_raw_of_committed {s : State} {n i : Nat} {sh : Shot} (found : s.committed n = some (i, sh)) :
    s.obj i .raw = sh.raw := by
  obtain ⟨shot, _⟩ := State.committed_shot found
  simp [State.obj, shot, Shot.obj]

theorem rendition_unqueued {q : List Job} {n : Nat} (none : q.any (·.shot == n) = false) : q.any (Job.is n .rendition) = false := by
  simp only [List.any_eq_false, beq_iff_eq] at none ⊢
  exact fun j mem own => none j mem ((jobIs_iff n .rendition j).mp own).1

/-! ### What a pass's completion leaves of the engine, the clocks and the settings -/

/-- `s` has the development engine, the Supervisor, the settings and the replies of `r`. -/
structure Spares (r s : State) : Prop where
  dev : s.dev = r.dev
  sup : s.sup = r.sup
  settings : s.settings = r.settings
  replies : s.link.replies = r.link.replies

theorem Spares.refl (s : State) : Spares s s := ⟨rfl, rfl, rfl, rfl⟩

theorem Spares.trans {r s t : State} (h : Spares r s) (h' : Spares s t) : Spares r t :=
  ⟨h'.dev.trans h.dev, h'.sup.trans h.sup, h'.settings.trans h.settings, h'.replies.trans h.replies⟩

theorem Spares.foldl {α : Type} {r s : State} (l : List α) (f : State → α → State) (h : Spares r s)
    (hf : ∀ t x, Spares r t → Spares r (f t x)) : Spares r (l.foldl f s) := by
  induction l generalizing s with
  | nil => exact h
  | cons x l ih => exact ih (hf s x h)

section Spared
variable {r s : State} (h : Spares r s)
include h

theorem Spares.setSlot (sl : Slot) (c : CardSlot) : Spares r (s.setSlot sl c) := h.trans ⟨rfl, rfl, rfl, rfl⟩

theorem Spares.mapShot (i : Nat) (f : Shot → Shot) : Spares r (s.mapShot i f) := h.trans ⟨by simp, by simp, by simp, by simp⟩

theorem Spares.setCardStatus (i : Nat) (k : Pict) (sl : Slot) (v : CardStatus) : Spares r (s.setCardStatus i k sl v) := h.mapShot _ _

theorem Spares.mapObj (i : Nat) (k : Pict) (f : Obj → Obj) : Spares r (s.mapObj i k f) := h.mapShot _ _

theorem Spares.of_keeps {t : State} (keeps : s.Keeps t) (dev : t.dev = s.dev) : Spares r t :=
  h.trans ⟨dev, congrArg Kept.sup keeps, congrArg Kept.settings keeps, congrArg Kept.replies keeps⟩

theorem Spares.raise (k : ReportKind) (fs : List Byte) : Spares r (s.raise k fs) :=
  h.of_keeps ((State.Keeps.refl s).raise k fs) (State.raise_dev s k fs)

theorem Spares.releaseHold (i : Nat) (k : Pict) (hd : Hold) : Spares r (s.releaseHold i k hd) :=
  h.of_keeps ((State.Keeps.refl s).releaseHold i k hd) (State.releaseHold_dev s i k hd)

/-! ### Card jobs (R137, R144, R145) -/

theorem Spares.tryStart (sl : Slot) : Spares r (s.tryStart sl) := by
  unfold State.tryStart
  split
  next => exact h
  next =>
    split
    next => exact h
    next j js _ =>
      dsimp only
      generalize (if (s.slot sl).remaining < j.blocks then (s.slot sl).takePending else s.slot sl) = c
      split
      next => exact (h.setSlot _ _).setCardStatus _ _ _ _
      next => exact (h.setSlot _ _).raise _ _

theorem Spares.joinQueue (sl : Slot) (j : WriteJob) (try' : State → State) (ht : ∀ t, Spares r t → Spares r (try' t)) :
    Spares r (s.joinQueue sl j try') := by
  unfold State.joinQueue; dsimp only
  split
  next => exact ht _ (h.setSlot _ _)
  next => exact h.setSlot _ _

theorem Spares.moveJob (left : CardStatus) (j : WriteJob) : Spares r (s.moveJob left j) := by
  have moved := (h.setCardStatus j.entry j.kind .a left).mapObj j.entry j.kind
    fun o => { o with holds := (o.holds.set .cardA false).set .cardB true }
  unfold State.moveJob; dsimp only
  split
  next => exact moved
  next => exact (moved.setCardStatus _ _ _ _).joinQueue _ _ _ fun _ ht => ht.tryStart _

theorem Spares.moveQueue : Spares r s.moveQueue := Spares.foldl _ _ (h.setSlot _ _) fun _ _ ht => ht.moveJob _ _

theorem Spares.tryHead (sl : Slot) : Spares r (s.tryHead sl) := by
  unfold State.tryHead; dsimp only
  split
  next => exact (h.tryStart sl).moveQueue
  next => exact h.tryStart sl

theorem Spares.enqueueJob (i : Nat) (k : Pict) (sl : Slot) : Spares r (s.enqueueJob i k sl) := by
  unfold State.enqueueJob
  split
  next => exact ((h.setCardStatus _ _ _ _).mapObj _ _ _).joinQueue _ _ _ fun _ ht => ht.tryHead _
  next => exact h

theorem Spares.cardJobs (i : Nat) (k : Pict) : Spares r (s.cardJobs i k) := by
  unfold State.cardJobs
  split
  next => exact h.mapObj _ _ _
  next => exact Spares.foldl _ _ h fun _ _ ht => ht.enqueueJob _ _ _

/-! ### The completions of pictures (R24, R116, R186) -/

theorem Spares.itemsReady (n : Nat) (k : Pict) : Spares r (s.itemsReady n k) := by
  refine h.of_keeps ((State.Keeps.refl s).itemsReady n k) ?_
  unfold State.itemsReady State.itemReady State.placeTether State.place State.mapObj
  split
  next => simp only [State.notify_dev]; split <;> simp
  next => rfl

theorem Spares.completeRendition (i n : Nat) : Spares r (s.completeRendition i n) := by
  unfold State.completeRendition; dsimp only
  refine (Spares.itemsReady ?_ _ _).releaseHold _ _ _
  split
  next => exact (h.mapObj _ _ _).cardJobs _ _
  next => exact h.mapObj _ _ _

end Spared

/-! ### The shot of a pass is still there at its report -/

theorem shot_mapShot_some {s : State} {i : Nat} {sh : Shot} (h : s.shot i = some sh) (m : Nat) (f : Shot → Shot) :
    ∃ sh', (s.mapShot m f).shot i = some sh' := by
  rw [State.shot_mapShot, h]; split <;> exact ⟨_, rfl⟩

theorem shot_notify (s : State) (n : Notice) (i : Nat) : (s.notify n).shot i = s.shot i := by simp [State.shot]

theorem shot_itemReady_some {s : State} {i : Nat} {sh : Shot} (h : s.shot i = some sh) (n : Nat) (k : Pict) :
    ∃ sh', (s.itemReady n k).shot i = some sh' := by
  rw [State.itemReady, shot_notify, shot_notify, State.placeTether]
  split
  next => exact ⟨sh, h⟩
  next => exact shot_mapShot_some h _ _

/-- Items told of a picture take no shot out of the table. -/
theorem shot_itemsReady_some {s : State} {i : Nat} {sh : Shot} (h : s.shot i = some sh) (n : Nat) (k : Pict) :
    ∃ sh', (s.itemsReady n k).shot i = some sh' := by
  unfold State.itemsReady
  split
  next => refine shot_itemReady_some (sh := sh) ?_ n k; exact h
  next => exact ⟨sh, h⟩

theorem grows_itemsReady {i : Nat} {r s : State} (h : State.Grows i r s) (n : Nat) (k : Pict) :
    State.Grows i r (s.itemsReady n k) := by
  unfold State.itemsReady
  split
  next => exact (h.setTet _).itemReady n k
  next => exact h

/-- A change of a shot's rendition leaves its raw as it was. -/
theorem grows_setRendition {i : Nat} {r s : State} (h : State.Grows i r s) (j : Nat) (g : Shot → Option Obj) :
    State.Grows i r (s.mapShot j fun sh => sh.setObj .rendition (g sh)) :=
  h.mapShot j _ fun _ o raw => ⟨o, raw, ⟨rfl, rfl, rfl, rfl, rfl⟩, .refl o⟩

/-- An entry with a raw does not retire (R10). -/
theorem grows_checkRetire {i : Nat} {r s : State} (h : State.Grows i r s) : State.Grows i r (s.checkRetire i) := by
  refine h.trans fun sh o shot raw => ⟨sh, o, ?_, raw, .refl sh, .refl o⟩
  simp only [State.checkRetire, shot, raw]
  split <;> simp [shot]

theorem grows_releaseRendition {i : Nat} {r s : State} (h : State.Grows i r s) (hd : Hold) :
    State.Grows i r (s.releaseHold i .rendition hd) := by
  unfold State.releaseHold State.setHolds
  split
  next => exact h
  next o found =>
    split
    next =>
      refine grows_checkRetire ?_
      refine (grows_setRendition h i fun _ => none).next ?_
      simp only [State.removeObj, found, State.shot, State.announceSpace_sbm]; rfl
    next => exact grows_setRendition h i _

/-- A rendition's completion leaves its shot's raw, and with it the entry. -/
theorem grows_completeRendition (s : State) (i n : Nat) : State.Grows i s (s.completeRendition i n) := by
  have completed := grows_setRendition (.refl i s) i fun sh =>
    (sh.obj .rendition).map fun o => { o with complete := true, cardBound := s.settings.bindsRenditions }
  unfold State.completeRendition; dsimp only
  refine grows_releaseRendition (grows_itemsReady ?_ _ _) _
  split
  next => exact completed.cardJobs _ _
  next => exact completed

/-! ### The end of a pass is counted (R116, R117, R128) -/

theorem shot_carryTo (s : State) (d i : Nat) : (s.carryTo d).shot i = s.shot i := by simp [State.shot]

theorem exec_thumbPassEnd {s : State} {p : Pass} (held : s.held = false) (running : s.dev.engine = .thumbPass p) :
    exec .thumbPassEnd s = .next ((s.carryTo p.endDue).completeThumb p).settle := by
  have passed : (s.carryTo p.endDue).passOver = (s.carryTo p.endDue).completeThumb p := by
    simp only [State.passOver, State.carryTo_dev, running]
  rw [← passed]
  exact congrArg Host.Outcome.next (PhaseMeasurement.timer_of_due held (by rw [running]; rfl) State.passOver)

theorem exec_renderPassEnd {s : State} {p : Pass} (held : s.held = false) (running : s.dev.engine = .renderPass p) :
    exec .renderPassEnd s = .next ((s.carryTo p.endDue).completeRender p).settle := by
  have passed : (s.carryTo p.endDue).passOver = (s.carryTo p.endDue).completeRender p := by
    simp only [State.passOver, State.carryTo_dev, running]
  rw [← passed]
  exact congrArg Host.Outcome.next (PhaseMeasurement.timer_of_due held (by rw [running]; rfl) State.passOver)

/-- What the step of a pass's end leaves: the count one higher, and the clocks, the settings and the replies of `r`. -/
structure Counted (r t : State) : Prop where
  completed : t.dev.completed = (r.dev.completed + 1) % 4294967296
  sup : t.sup = r.sup
  settings : t.settings = r.settings
  replies : t.link.replies = r.link.replies

/-- The report of a pass whose job and shot are there counts it, and what ends the pass and the step leaves the count. -/
theorem pass_counted {r s : State} (h : Spares r s) {p : Pass} {k : Pict} {j : Job} {sh : Shot}
    (job : r.dev.queue.find? (Job.is p.shot k) = some j) (shot : s.shot p.entry = some sh) (scale : Option Scale) (kept : Option Bool) :
    Counted r ((s.reportPass p k scale kept).endPass p k).settle := by
  have reported : s.reportPass p k scale kept = (s.setDev { s.dev with completed := next32 s.dev.completed }).raise .developed
      (developedFields p.shot p.entry k scale j.look (some p.recipe.gains) sh.wbFallback false kept) := by
    simp only [State.reportPass, State.passJob, h.dev, job, shot]
  have keeps : (s.setDev { s.dev with completed := next32 s.dev.completed }).Keeps
      ((s.reportPass p k scale kept).endPass p k).settle := by
    rw [reported]
    exact (((((State.Keeps.refl _).raise _ _).setEngine _).dropJobs _ _).notify _).drain _
  have count : next32 s.dev.completed = next32 r.dev.completed := by rw [h.dev]
  exact ⟨(congrArg Kept.completed keeps).trans count, (congrArg Kept.sup keeps).trans h.sup,
    (congrArg Kept.settings keeps).trans h.settings, (congrArg Kept.replies keeps).trans h.replies⟩

theorem completeThumb_counted {s : State} {p : Pass} {j : Job} {sh : Shot} (job : s.dev.queue.find? (Job.is p.shot .thumb) = some j)
    (shot : s.shot p.entry = some sh) : Counted s (s.completeThumb p).settle := by
  obtain ⟨_, made⟩ := shot_mapShot_some shot p.entry fun sh => { sh with thumb := some (passThumb p) }
  obtain ⟨_, there⟩ := shot_itemsReady_some made p.shot .thumb
  exact pass_counted (((Spares.refl s).mapShot _ _).itemsReady _ _) job there none none

theorem completeRender_counted {s : State} {p : Pass} {j : Job} {sh : Shot}
    (job : s.dev.queue.find? (Job.is p.shot .rendition) = some j) (shot : s.shot p.entry = some sh) (raw : sh.raw ≠ none) :
    Counted s (s.completeRender p).settle := by
  obtain ⟨o, hasRaw⟩ := Option.ne_none_iff_exists'.mp raw
  obtain ⟨_, _, there, _⟩ := grows_completeRendition s p.entry p.shot sh o shot hasRaw
  exact pass_counted ((Spares.refl s).completeRendition _ _) job there _ _

/-- Carrying the clock to the pass's end leaves the count, the settings and the replies. -/
theorem Counted.of_carryTo {s t : State} {d : Nat} (h : Counted (s.carryTo d) t) :
    t.dev.completed = (s.dev.completed + 1) % 4294967296 ∧ t.sup = (s.carryTo d).sup ∧ t.settings = s.settings
      ∧ t.link.replies = s.link.replies := by
  obtain ⟨completed, sup, settings, replies⟩ := h
  rw [State.carryTo_dev] at completed; rw [State.carryTo_settings] at settings; rw [State.carryTo_link] at replies
  exact ⟨completed, sup, settings, replies⟩

/-! ### The obligation -/

/-- Settles O48: DEVELOP by its refusals, the merge and the insertion, then the two ends of passes. -/
theorem developCommandAndPassEnds : Obligations.DevelopCommandAndPassEnds := by
  unfold Obligations.DevelopCommandAndPassEnds
  refine ⟨?uncommitted, ?unfit, ?noRaw, ?merges, ?mergesHead, ?joins, ?joinsFirst, ?joinsRecalled, ?thumb, ?rendition⟩
  case uncommitted =>
    intro s tag n look awake steady slot absent
    exact exec_develop_refused awake steady (develop_of_uncommitted slot absent) tag
  case unfit =>
    intro s tag n look i sh awake steady slot found unfit
    exact exec_develop_refused awake steady ((develop_of_committed slot found).trans (developShot_of_unfit unfit i n _)) tag
  case noRaw =>
    intro s tag n look i sh awake steady slot found buffered undeleted original noRendition noRaw noRecall
    have fit : Fit sh := ⟨buffered, undeleted, original, noRendition⟩
    exact exec_develop_refused awake steady ((develop_of_committed slot found).trans (developShot_of_noRaw fit noRaw noRecall i _)) tag
  case merges =>
    intro s tag n look i sh o awake slot found buffered undeleted original noRendition raw queued other
    have fit : Fit sh := ⟨buffered, undeleted, original, noRendition⟩
    have done := (develop_of_committed slot found).trans (developShot_of_queued fit (.inl (by simp [raw])) queued i _)
    rw [exec_develop_done awake done, relookJob_eq, waitsFor_of_other other]; rfl
  case mergesHead =>
    intro s tag n look i asked free sh o j awake slot found buffered undeleted original noRendition raw waits head own kind
    have fit : Fit sh := ⟨buffered, undeleted, original, noRendition⟩
    have isOwn := (jobIs_iff n .rendition j).mpr ⟨own, kind⟩
    have done := (develop_of_committed slot found).trans
      (developShot_of_queued fit (.inl (by simp [raw])) (any_of_headJob head isOwn) i _)
    rw [exec_develop_done awake done, relookJob_eq, waitsFor_of_head waits head isOwn]; rfl
  case joins =>
    intro s tag n look i sh o awake slot found buffered undeleted original noRendition raw another unqueued
    have fit : Fit sh := ⟨buffered, undeleted, original, noRendition⟩
    have done := (develop_of_committed slot found).trans
      (developShot_of_unqueued fit found (.inl (by simp [raw])) unqueued (s.settings.slotLook look))
    rw [exec_develop_done awake done, addJob_unplaced (.inl another)]; rfl
  case joinsFirst =>
    intro s tag n look i sh o awake slot found buffered undeleted original noRendition raw complete first
    have fit : Fit sh := ⟨buffered, undeleted, original, noRendition⟩
    have done := (develop_of_committed slot found).trans
      (developShot_of_unqueued fit found (.inl (by simp [raw])) (rendition_unqueued first) (s.settings.slotLook look))
    rw [exec_develop_done awake done, addJob_places first (by simp [newJob, obj_raw_of_committed found, raw, complete])]; rfl
  case joinsRecalled =>
    intro s tag n look i sh awake slot found buffered undeleted original noRendition noRaw recalled unqueued
    have fit : Fit sh := ⟨buffered, undeleted, original, noRendition⟩
    have done := (develop_of_committed slot found).trans
      (developShot_of_unqueued fit found (.inr recalled) unqueued (s.settings.slotLook look))
    rw [exec_develop_done awake done, addJob_unplaced (.inr (by simp [newJob, obj_raw_of_committed found, noRaw]))]; rfl
  case thumb =>
    intro s p j sh held engine job shot
    have counted := completeThumb_counted (s := s.carryTo p.endDue) (by rwa [State.carryTo_dev]) ((shot_carryTo s _ _).trans shot)
    exact ⟨_, exec_thumbPassEnd held engine, counted.of_carryTo⟩
  case rendition =>
    intro s p j sh o held engine job shot _ raw _
    have counted := completeRender_counted (s := s.carryTo p.endDue) (by rwa [State.carryTo_dev]) ((shot_carryTo s _ _).trans shot) raw
    exact ⟨_, exec_renderPassEnd held engine, counted.of_carryTo⟩

end Sys2Proof.Machine.Development
end

section
/-! PROOFS. Card slots (Chapter 6): the insertion of a card, its mounting, and its removal. -/

namespace Sys2Proof.Machine
open Sys2Proof

/-! ### A slot's record -/

/-- A slot's record after one is replaced. -/
theorem State.slot_setSlot (s : State) (sl m : Slot) (c : CardSlot) :
    (s.setSlot sl c).slot m = if m = sl then c else s.slot m := by cases sl <;> cases m <;> rfl

@[simp] theorem State.slot_setSlot_same (s : State) (sl : Slot) (c : CardSlot) : (s.setSlot sl c).slot sl = c := by
  rw [State.slot_setSlot, if_pos rfl]

theorem State.slot_setSlot_other {sl m : Slot} (other : m ≠ sl) (s : State) (c : CardSlot) :
    (s.setSlot sl c).slot m = s.slot m := by rw [State.slot_setSlot, if_neg other]

@[simp] theorem State.slot_carryTo (s : State) (d : Nat) (sl : Slot) : (s.carryTo d).slot sl = s.slot sl := by simp [State.slot]

/-- What has the kept part of a state has the kept part of each of its slots. -/
theorem State.Keeps.slot {r s : State} (h : r.Keeps s) (sl : Slot) : (s.slot sl).kept = (r.slot sl).kept :=
  match sl with
  | .a => congrArg Kept.slotA h
  | .b => congrArg Kept.slotB h

/-! ### The search for an item's picture keeps what a step's end leaves alone (R108, R147, R184, R185) -/

section Search
variable {r s : State} (h : r.Keeps s)
include h

theorem State.Keeps.addJob (j : Job) : r.Keeps (s.addJob j) := by
  have joined := h.setDev { s.dev with queue := insertJob j s.dev.queue } rfl
  unfold State.addJob State.placeDevelop; dsimp only
  refine State.Keeps.notify ?_ _
  split
  next =>
    split
    next => exact joined.place _ _ _
    next => exact joined
  next => exact joined

theorem State.Keeps.requestJob (i : Nat) (k : Pict) (look : JobLook) : r.Keeps (s.requestJob i k look).1 := by
  unfold State.requestJob
  split
  next => exact h
  next =>
    split
    next => exact h
    next =>
      dsimp only
      split
      next => exact h.addJob _
      next => exact h

/-- A recall request changes the slots' recalls alone. -/
theorem State.Keeps.requestRecall (n : Nat) (k : Pict) (host : Bool) (item : Option Nat) :
    r.Keeps (s.requestRecall n k host item).1 := by
  unfold State.requestRecall; dsimp only
  split
  next => exact h
  split
  next => exact h
  split
  next => exact h.setSlot .a _ rfl
  split
  next => exact h.setSlot .b _ rfl
  split
  next => exact h
  split
  next => exact h
  split
  next => exact h
  next e _ => exact State.Keeps.notify (h.setSlot e.slot _ (by exact rfl)) _

theorem State.Keeps.recallToDevelop (i n : Nat) (sh : Shot) (m : Nat) : r.Keeps (s.recallToDevelop i n sh m).1 := by
  have asked := h.requestRecall n .raw false (some m)
  unfold State.recallToDevelop; dsimp only
  split
  next => exact asked.requestJob _ _ _
  next => exact asked.requestJob _ _ _
  next => exact asked

theorem State.Keeps.findRendition (i n : Nat) (sh : Shot) (m : Nat) : r.Keeps (s.findRendition i n sh m).1 := by
  unfold State.findRendition
  split
  next => exact h.requestRecall _ _ _ _
  split
  next => exact h.recallToDevelop _ _ _ _
  next => exact h

theorem State.Keeps.findCommitted (i n : Nat) (sh : Shot) (k : Pict) (m : Nat) : r.Keeps (s.findCommitted i n sh k m).1 := by
  cases k with
  | thumb =>
    simp only [State.findCommitted]
    split
    next => exact h
    next => split <;> exact h.requestJob _ _ _
  | rendition =>
    simp only [State.findCommitted]
    split
    next => exact h
    split
    next =>
      have asked := h.requestJob i .rendition sh.jobLook
      split
      next => exact asked
      next => exact asked
      all_goals exact asked.findRendition _ _ _ _
    next => exact h.findRendition _ _ _ _
  | raw =>
    simp only [State.findCommitted]
    split
    next => exact h
    next => exact h.requestRecall _ _ _ _

theorem State.Keeps.findPicture (n : Nat) (k : Pict) (m : Nat) : r.Keeps (s.findPicture n k m).1 := by
  unfold State.findPicture
  split
  next => exact h.findCommitted _ _ _ _ _
  next =>
    split
    next => exact h
    all_goals
      split
      next => exact h.requestRecall _ _ _ _
      next => exact h

end Search

end Sys2Proof.Machine

namespace Sys2Proof.Machine.CardSlots
open Sys2Proof LensDrive

/-! ### What the work on other slots leaves of a slot that is not IDLE

No job starts on a slot that is not IDLE (R138), so whatever the slots' queues, the recalls and the items go through, such a
slot stays as it is but for its own queues. -/

/-- The kept part of a slot but its write jobs. -/
def standing (c : CardSlot) : KeptSlot := { c.kept with queue := [] }

/-- Slot `sl`, which is not IDLE in `r`, stands in `s` as it does in `r`, and so do the settings and the Supervisor. -/
structure Rests (sl : Slot) (r s : State) : Prop where
  busy : (r.slot sl).state ≠ .idle
  card : standing (s.slot sl) = standing (r.slot sl)
  settings : s.settings = r.settings
  sup : s.sup = r.sup

theorem Rests.refl {sl : Slot} {s : State} (busy : (s.slot sl).state ≠ .idle) : Rests sl s s := ⟨busy, rfl, rfl, rfl⟩

theorem Rests.foldl {α : Type} {sl : Slot} {r s : State} (l : List α) (f : State → α → State) (h : Rests sl r s)
    (hf : ∀ t x, Rests sl r t → Rests sl r (f t x)) : Rests sl r (l.foldl f s) := by
  induction l generalizing s with
  | nil => exact h
  | cons x l ih => exact ih (hf s x h)

/-- No job starts on a slot that is not IDLE (R138). -/
theorem tryStart_of_busy {s : State} {sl : Slot} (busy : (s.slot sl).state ≠ .idle) : s.tryStart sl = s := by
  simp [State.tryStart, State.cannotStart, busy]

section Resting
variable {sl : Slot} {r s : State} (h : Rests sl r s)
include h

theorem Rests.stays_busy : (s.slot sl).state ≠ .idle := by
  have same : (s.slot sl).state = (r.slot sl).state := congrArg KeptSlot.state h.card
  rw [same]; exact h.busy

theorem Rests.of_keeps {t : State} (keeps : s.Keeps t) : Rests sl r t where
  busy := h.busy
  card := (congrArg (fun c : KeptSlot => { c with queue := [] }) (keeps.slot sl)).trans h.card
  settings := (congrArg Kept.settings keeps).trans h.settings
  sup := (congrArg Kept.sup keeps).trans h.sup

/-- Another slot changes as it may; this one only where it does not stand. -/
theorem Rests.setSlot {m : Slot} {c : CardSlot} (own : m = sl → standing c = standing (s.slot sl)) : Rests sl r (s.setSlot m c) := by
  refine ⟨h.busy, ?_, h.settings, h.sup⟩
  rw [State.slot_setSlot]
  split
  next same => exact (own same.symm).trans h.card
  next => exact h.card

theorem Rests.raise (k : ReportKind) (fs : List Byte) : Rests sl r (s.raise k fs) := h.of_keeps ((State.Keeps.refl s).raise k fs)

theorem Rests.setCardStatus (i : Nat) (k : Pict) (m : Slot) (v : CardStatus) : Rests sl r (s.setCardStatus i k m v) :=
  h.of_keeps ((State.Keeps.refl s).mapShot _ _)

theorem Rests.mapObj (i : Nat) (k : Pict) (f : Obj → Obj) : Rests sl r (s.mapObj i k f) :=
  h.of_keeps ((State.Keeps.refl s).mapObj i k f)

/-! ### Write jobs (R137, R144, R145, R146) -/

theorem Rests.tryStart (m : Slot) : Rests sl r (s.tryStart m) := by
  by_cases own : m = sl
  · rw [tryStart_of_busy (own ▸ h.stays_busy)]; exact h
  · unfold State.tryStart
    split
    next => exact h
    split
    next => exact h
    next j _ _ =>
      dsimp only
      generalize (if (s.slot m).remaining < j.blocks then (s.slot m).takePending else s.slot m) = c
      split
      next => exact (h.setSlot fun same => absurd same own).setCardStatus _ _ _ _
      next => exact (h.setSlot fun same => absurd same own).raise _ _

/-- A slot's write jobs replaced. -/
theorem Rests.setQueue (m : Slot) (q : List WriteJob) : Rests sl r (s.setSlot m { s.slot m with queue := q }) :=
  h.setSlot fun same => by rw [same]; rfl

theorem Rests.joinQueue (m : Slot) (j : WriteJob) (try' : State → State) (ht : ∀ t, Rests sl r t → Rests sl r (try' t)) :
    Rests sl r (s.joinQueue m j try') := by
  unfold State.joinQueue; dsimp only
  split
  next => exact ht _ (h.setQueue _ _)
  next => exact h.setQueue _ _

theorem Rests.moveJob (left : CardStatus) (j : WriteJob) : Rests sl r (s.moveJob left j) := by
  have moved := (h.setCardStatus j.entry j.kind .a left).mapObj j.entry j.kind
    fun o => { o with holds := (o.holds.set .cardA false).set .cardB true }
  unfold State.moveJob; dsimp only
  split
  next => exact moved
  next => exact (moved.setCardStatus _ _ _ _).joinQueue _ _ _ fun _ ht => ht.tryStart _

theorem Rests.moveQueue : Rests sl r s.moveQueue := Rests.foldl _ _ (h.setQueue .a []) fun _ _ ht => ht.moveJob _ _

theorem Rests.tryHead (m : Slot) : Rests sl r (s.tryHead m) := by
  unfold State.tryHead; dsimp only
  split
  next => exact (h.tryStart m).moveQueue
  next => exact h.tryStart m

theorem Rests.enqueueJob (i : Nat) (k : Pict) (m : Slot) : Rests sl r (s.enqueueJob i k m) := by
  unfold State.enqueueJob
  split
  next => exact ((h.setCardStatus _ _ _ _).mapObj _ _ _).joinQueue _ _ _ fun _ ht => ht.tryHead _
  next => exact h

theorem Rests.sweep : Rests sl r s.sweep :=
  Rests.foldl _ _ h fun _ _ ht => Rests.foldl _ _ ht fun _ _ ht => ht.enqueueJob _ _ _

theorem Rests.endCardJob (i : Nat) (k : Pict) (m : Slot) (v : CardStatus) : Rests sl r (s.endCardJob i k m v) := by
  have marked := h.setCardStatus i k m v
  unfold State.endCardJob; dsimp only
  split
  next => exact marked.of_keeps ((State.Keeps.refl _).setHolds _ _ _)
  next => exact marked

theorem Rests.moveActive (left : CardStatus) (j : WriteJob) : Rests sl r (s.moveActive left j) := by
  unfold State.moveActive
  split
  next => exact h.endCardJob _ _ _ _
  next => exact h.moveJob _ _

theorem Rests.endJobs (m : Slot) (left : CardStatus) (active queued : List WriteJob) :
    Rests sl r (s.endJobs m left active queued) := by
  unfold State.endJobs
  split
  next => exact Rests.foldl _ _ (Rests.foldl _ _ h fun _ _ ht => ht.moveActive _ _) fun _ _ ht => ht.moveJob _ _
  next => exact Rests.foldl _ _ h fun _ _ ht => ht.endCardJob _ _ _ _

/-! ### Recalls that fail and the items that waited for them (R153, R186) -/

/-- A declined item is counted and reported. -/
theorem Rests.decline (item : Option Nat) (n : Nat) (k : Pict) (origin : Origin) (rule transfer : Option Nat) (reason : DeclineReason) :
    Rests sl r (s.decline item n k origin rule transfer reason) :=
  Rests.raise (s := s.setTet { s.tet with declined := next32 s.tet.declined }) ⟨h.busy, h.card, h.settings, h.sup⟩ _ _

theorem Rests.removeItem (x : Item) : Rests sl r (s.removeItem x) := h.of_keeps ((State.Keeps.refl s).removeItem x)

theorem Rests.failItem (m : Nat) : Rests sl r (s.failItem m) := by
  unfold State.failItem
  split
  next => exact h
  split
  next => exact (h.decline _ _ _ _ _ _ _).removeItem _
  next => exact h

theorem Rests.relookItem (x : Item) : Rests sl r (s.relookItem x) := by
  have looked := (State.Keeps.refl s).findPicture x.shot x.kind x.number
  unfold State.relookItem; dsimp only
  split
  next => exact ((h.of_keeps looked).decline _ _ _ _ _ _ _).removeItem _
  next =>
    split
    next => exact h.of_keeps ((looked.mapItem _ _).itemReady _ _)
    next => exact h.of_keeps (looked.mapItem _ _)

theorem Rests.relookItems (n : Nat) (k : Pict) : Rests sl r (s.relookItems n k) :=
  Rests.foldl _ _ h fun _ _ ht => ht.relookItem _

theorem Rests.abandonRecalled (x : Recall) : Rests sl r (s.abandonRecalled x) := by
  unfold State.abandonRecalled
  split
  next => exact h
  next => exact h.of_keeps ((State.Keeps.refl s).removeObj _ _)

theorem Rests.failRecall (m : Slot) (e : RecallReason) (x : Recall) : Rests sl r (s.failRecall m e x) := by
  have left : Rests sl r ((s.unqueueRecall m x).raise .recallFailed (recallFailedFields x m e)) :=
    h.of_keeps (((State.Keeps.refl s).unqueueRecall m x).raise _ _)
  unfold State.failRecall
  extract_lets s1 s2 s3 s4
  have abandoned : Rests sl r s2 := by
    refine Rests.abandonRecalled ?_ x
    split
    next => exact left
    next => exact Rests.foldl _ _ left fun _ _ ht => ht.failItem _
  have dropped : Rests sl r s3 := by
    unfold s3
    split
    next => exact abandoned.of_keeps ((State.Keeps.refl s2).dropOrphanJobs _)
    next => exact abandoned
  have relooked : Rests sl r s4 := by
    unfold s4
    split
    next => exact dropped
    next => exact dropped.relookItems _ _
  exact relooked.of_keeps (((State.Keeps.refl s4).checkRetireShot _).notify _)

theorem Rests.failRecalls (m : Slot) (e : RecallReason) : Rests sl r (s.failRecalls m e) :=
  Rests.foldl _ _ h fun _ _ ht => ht.failRecall _ _ _

end Resting

/-! ### Insertion and mounting (R132, R146) -/

theorem sweepOrder_reportSlot (s : State) (sl : Slot) (c : CardSlot) (st : SlotState) (mount : Nat) (capacity : Option Nat)
    (reason : Option CardReason) : ((s.setSlot sl c).reportSlot sl st mount capacity reason).sweepOrder = s.sweepOrder := by
  simp [State.sweepOrder, State.reportSlot]

theorem sweep_of_saved {s : State} (saved : s.sweepOrder = []) : s.sweep = s := by rw [State.sweep, saved]; rfl

/-- A step that puts `c` in slot `sl` of `r` leaves the other slot, the mount counter, the settings and the Supervisor. -/
structure Replaced (sl : Slot) (c : CardSlot) (r t : State) : Prop where
  own : (t.slot sl).kept = c.kept
  other : ∀ m, m ≠ sl → (t.slot m).kept = (r.slot m).kept
  counter : t.crd.mountCounter = r.crd.mountCounter
  settings : t.settings = r.settings
  sup : t.sup = r.sup

theorem Replaced.outcome {sl : Slot} {c : CardSlot} {s t : State} (h : Replaced sl c s t) {i : Instr} (done : exec i s = .next t) :
    ∃ t, exec i s = .next t ∧ (t.slot sl).kept = c.kept ∧ (∀ m, m ≠ sl → (t.slot m).kept = (s.slot m).kept)
      ∧ t.settings = s.settings ∧ t.sup = s.sup := ⟨t, done, h.own, h.other, h.settings, h.sup⟩

/-- A slot's record replaced and reported, and the step carried to its end. -/
theorem reported_settle (s : State) (sl : Slot) (c : CardSlot) (st : SlotState) (mount : Nat) (capacity : Option Nat)
    (reason : Option CardReason) : Replaced sl c s ((s.setSlot sl c).reportSlot sl st mount capacity reason).settle := by
  have keeps : (s.setSlot sl c).Keeps ((s.setSlot sl c).reportSlot sl st mount capacity reason).settle :=
    ((State.Keeps.refl _).raise _ _).drain _
  refine ⟨?_, fun m other => ?_, ?_, congrArg Kept.settings keeps, congrArg Kept.sup keeps⟩
  · rw [keeps.slot sl, State.slot_setSlot_same]
  · rw [keeps.slot m, State.slot_setSlot_other other]
  · have counter := congrArg Kept.mountCounter keeps
    cases sl <;> exact counter

/-- An inserted card takes the mount counter, which moves on (R132). -/
theorem insertCard_settle {s : State} {sl : Slot} (absent : (s.slot sl).state = .absent) :
    Replaced sl { CardSlot.absent with
        state := .mounting, mount := some s.crd.mountCounter, mountDue := some (s.sup.elapsed + 1000000) }
      (s.setCrd { s.crd with mountCounter := if s.crd.mountCounter = 65535 then 1 else s.crd.mountCounter + 1 })
      (s.insertCard sl).settle := by
  unfold State.insertCard
  rw [if_pos absent]
  exact reported_settle _ _ _ _ _ _ _

section Mounting
variable {s : State} {sl : Slot} (mounting : (s.slot sl).state = .mounting)
include mounting

theorem mountCard_settle_of_protected (capacity : Nat) :
    Replaced sl { s.slot sl with state := .locked, capacity := some capacity, mountDue := none } s
      (s.mountCard sl capacity true).settle := by
  unfold State.mountCard
  rw [if_pos mounting]
  exact reported_settle _ _ _ _ _ _ _

/-- With nothing unsaved the sweep of a writable mount makes no job (R146). -/
theorem mountCard_settle_of_saved (saved : s.sweepOrder = []) (capacity : Nat) :
    Replaced sl { s.slot sl with state := .idle, capacity := some capacity, mountDue := none } s
      (s.mountCard sl capacity false).settle := by
  unfold State.mountCard; dsimp only
  rw [if_pos mounting, if_neg Bool.false_ne_true, sweep_of_saved ((sweepOrder_reportSlot ..).trans saved)]
  exact reported_settle _ _ _ _ _ _ _

theorem failMount_settle :
    Replaced sl { s.slot sl with state := .failed, mountDue := none } s (s.failMount sl).settle := by
  unfold State.failMount
  rw [if_pos mounting]
  exact reported_settle _ _ _ _ _ _ _

end Mounting

/-! ### Removal (R133) -/

/-- The removed card's slot stands ABSENT through the end of its jobs and recalls and the sweep after them. -/
theorem removeCard_rests {s : State} {sl : Slot} (present : (s.slot sl).state ≠ .absent) :
    Rests sl (s.setSlot sl { CardSlot.absent with recalls := (s.slot sl).recalls }) (s.removeCard sl) := by
  have left : Rests sl (s.setSlot sl { CardSlot.absent with recalls := (s.slot sl).recalls })
      (s.setSlot sl { CardSlot.absent with recalls := (s.slot sl).recalls }) :=
    Rests.refl (by simp [CardSlot.absent])
  unfold State.removeCard; dsimp only
  rw [if_neg present]
  have reported := Rests.foldl (s.slot sl).jobs.1 _ (left.raise .cardState
    (cardStateFields sl .absent ((s.slot sl).mount.getD 0) none none none none none)) fun _ j ht =>
      ht.raise .cardPartial (partialFields false sl (s.slot sl) j)
  exact ((reported.endJobs _ _ _ _).failRecalls _ _).sweep

/-! ### The obligation -/

/-- Settles O52: each event's own change of its slot, carried to the step's end, which leaves the slots alone. -/
theorem cardsMountAndLeave : Obligations.CardsMountAndLeave := by
  unfold Obligations.CardsMountAndLeave
  refine ⟨?inserted, ?locked, ?idle, ?failed, ?timeout, ?removed⟩
  case inserted =>
    intro s sl held absent
    obtain ⟨own, other, counter, settings, sup⟩ := insertCard_settle absent
    exact ⟨_, congrArg Host.Outcome.next (event_of_running held fun x => x.insertCard sl), own, counter,
      fun m ne => (other m ne).trans (by cases m <;> rfl), settings, sup⟩
  case locked =>
    intro s sl capacity held mounting
    exact (mountCard_settle_of_protected mounting capacity).outcome
      (congrArg Host.Outcome.next (event_of_running held fun x => x.mountCard sl capacity true))
  case idle =>
    intro s sl capacity held mounting saved
    exact (mountCard_settle_of_saved mounting saved capacity).outcome
      (congrArg Host.Outcome.next (event_of_running held fun x => x.mountCard sl capacity false))
  case failed =>
    intro s sl held mounting
    exact (failMount_settle mounting).outcome (congrArg Host.Outcome.next (event_of_running held fun x => x.failMount sl))
  case timeout =>
    intro s sl due held mounting mountDue
    obtain ⟨own, other, _, settings, sup⟩ := failMount_settle (s := s.carryTo due) (by rwa [State.slot_carryTo])
    simp only [State.slot_carryTo, State.carryTo_settings] at own other settings
    exact ⟨_, congrArg Host.Outcome.next (PhaseMeasurement.timer_of_due held mountDue fun x => x.failMount sl), own, other, settings, sup⟩
  case removed =>
    intro s sl held present
    obtain ⟨_, card, settings, sup⟩ := (removeCard_rests present).of_keeps ((State.Keeps.refl _).drain 4096)
    rw [State.slot_setSlot_same] at card
    exact ⟨_, congrArg Host.Outcome.next (event_of_running held fun x => x.removeCard sl), congrArg KeptSlot.state card,
      congrArg KeptSlot.mount card, congrArg KeptSlot.capacity card, congrArg KeptSlot.window card, settings, sup⟩

end Sys2Proof.Machine.CardSlots
end

section
/-! PROOFS. The order in which the tether queue hands its items to the link (R160, R187). -/

namespace Sys2Proof.Machine.TetherOrder
open Sys2Proof

/-! ### The order of R187 -/

/-- Of two items the one that does not come later is of the higher priority, or of the same and no later sequence. -/
theorem before_eq_false_iff (x y : Item) :
    y.before x = false ↔ y.priority < x.priority ∨ (y.priority = x.priority ∧ x.seq ≤ y.seq) := by
  simp only [Item.before, Bool.or_eq_false_iff, Bool.and_eq_false_iff, decide_eq_false_iff_not, beq_eq_false_iff_ne]
  omega

theorem before_asymm {x y : Item} (h : x.before y = true) : y.before x = false := by
  rw [before_eq_false_iff]
  simp only [Item.before, Bool.or_eq_true, Bool.and_eq_true, decide_eq_true_eq, beq_iff_eq] at h
  omega

theorem before_eq_false_trans {x y z : Item} (hyx : y.before x = false) (hzy : z.before y = false) : z.before x = false := by
  rw [before_eq_false_iff] at *
  omega

/-- Every item of a list comes before the ones behind it, or is level with them. -/
def InOrder (l : List Item) : Prop := l.Pairwise fun x y => y.before x = false

theorem mem_insertItem {x y : Item} {l : List Item} : y ∈ insertItem x l ↔ y = x ∨ y ∈ l := by
  induction l with
  | nil => simp [insertItem]
  | cons z zs ih =>
    unfold insertItem
    split
    next => exact List.mem_cons
    next => simp only [List.mem_cons, ih]; exact or_left_comm

theorem insertItem_inOrder {x : Item} {l : List Item} (h : InOrder l) : InOrder (insertItem x l) := by
  induction l with
  | nil => exact List.pairwise_singleton _ _
  | cons y ys ih =>
    obtain ⟨head, tail⟩ := List.pairwise_cons.mp h
    unfold insertItem
    split
    next first =>
      have after : y.before x = false := before_asymm first
      refine List.pairwise_cons.mpr ⟨fun z mem => ?_, h⟩
      rcases List.mem_cons.mp mem with rfl | mem
      · exact after
      · exact before_eq_false_trans after (head z mem)
    next later =>
      refine List.pairwise_cons.mpr ⟨fun z mem => ?_, ih tail⟩
      rcases mem_insertItem.mp mem with rfl | mem
      · exact Bool.eq_false_iff.mpr later
      · exact head z mem

/-! ### The READY items, and the first that RESTRICTED admits -/

theorem mem_readyOrder {t : Tet} {x : Item} : x ∈ t.readyOrder ↔ x ∈ t.items ∧ x.state = .ready := by
  have sorted (l : List Item) : x ∈ l.foldr insertItem [] ↔ x ∈ l := by
    induction l with
    | nil => rfl
    | cons y ys ih => rw [List.foldr_cons, mem_insertItem, ih, List.mem_cons]
  rw [Tet.readyOrder, sorted, List.mem_filter, beq_iff_eq]

theorem readyOrder_inOrder (t : Tet) : InOrder t.readyOrder :=
  List.foldrRecOn (motive := InOrder) _ _ List.Pairwise.nil fun _ ordered _ _ => insertItem_inOrder ordered

/-- RESTRICTED admits the urgent level and above, and every other state all items (R160). -/
theorem admits_iff (s : State) (x : Item) :
    s.admits x = true ↔ (s.tet.state = .restricted → s.settings.tether.urgentLevel ≤ x.priority) := by
  simp only [State.admits, Bool.or_eq_true, bne_iff_ne, decide_eq_true_eq]
  exact Decidable.imp_iff_not_or.symm

/-- No admitted item of an ordered list comes before the first admitted one. -/
theorem not_before_of_find? {l : List Item} {p : Item → Bool} {x y : Item} (ordered : InOrder l) (found : l.find? p = some x)
    (mem : y ∈ l) (admitted : p y = true) : y.before x = false := by
  obtain ⟨_, earlier, later, rfl, refused⟩ := List.find?_eq_some_iff_append.mp found
  obtain ⟨_, behind, _⟩ := List.pairwise_append.mp ordered
  rcases List.mem_append.mp mem with mem | mem
  · exact absurd (refused y mem) (by simp [admitted])
  · rcases List.mem_cons.mp mem with rfl | mem
    · exact (before_eq_false_iff _ _).mpr (.inr ⟨rfl, Nat.le_refl _⟩)
    · exact (List.pairwise_cons.mp behind).1 y mem

/-- Settles O56: the queue hands over the first admitted item of the READY items, which stand in the order of R187. -/
theorem handedItemIsFirstInOrder : Obligations.HandedItemIsFirstInOrder := by
  unfold Obligations.HandedItemIsFirstInOrder
  refine ⟨fun s x found => ?handed, fun s => ?none⟩
  case handed =>
    obtain ⟨mem, ready⟩ := mem_readyOrder.mp (List.mem_of_find?_eq_some found)
    refine ⟨mem, ready, (admits_iff s x).mp (List.find?_some found), fun y hy ready' admitted => ?_⟩
    exact (before_eq_false_iff x y).mp
      (not_before_of_find? (readyOrder_inOrder s.tet) found (mem_readyOrder.mpr ⟨hy, ready'⟩) ((admits_iff s y).mpr admitted))
  case none =>
    simp only [State.selectItem, List.find?_eq_none, mem_readyOrder, admits_iff, and_imp, Classical.not_imp, Nat.not_le]

end Sys2Proof.Machine.TetherOrder
end

section
/-! PROOFS. What the operations of the tether link do to the part of the state a step's end leaves alone (Chapter 7). -/

namespace Sys2Proof.Machine
open Sys2Proof

/-! ### The link enters another state (R164, R165) -/

/-- Of what a step's end leaves alone, entering a state sets the link state alone, and CUT the rejoin count beside it. -/
theorem State.enterLink_keeps (s : State) (new : LinkState) (cause : LinkCause) :
    (s.setTet { s.tet with state := new, rejoin := if new = .cut then 0 else s.tet.rejoin }).Keeps (s.enterLink new cause) := by
  unfold State.enterLink; dsimp only
  refine State.Keeps.notify (State.Keeps.raise ?_ _ _) _
  split
  next cut => exact (State.Keeps.refl _).returnTransfer true
  next => exact State.Keeps.refl _

/-- Only CUT ends the active transfer. -/
theorem State.enterLink_transfer {new : LinkState} (runs : new ≠ .cut) (s : State) (cause : LinkCause) :
    (s.enterLink new cause).tet.transfer = s.tet.transfer := by
  simp [State.enterLink, State.reportLink, runs]

/-! ### The link judged from its counters (R163, R164) -/

/-- The kept part of a state but what judging the link may set: the link state and the rejoin count. -/
def Kept.unjudged (k : Kept) : Kept := { k with linkState := .down, rejoin := 0 }

/-- `t` is `r` as far as a step's end leaves it alone, apart from the link state and the rejoin count. -/
def State.Judged (r t : State) : Prop := t.kept.unjudged = r.kept.unjudged

namespace State.Judged
variable {r s t : State}

theorem refl (s : State) : s.Judged s := rfl

theorem trans (h : r.Judged s) (h' : s.Judged t) : r.Judged t := Eq.trans h' h

theorem of_keeps (h : r.Keeps s) : r.Judged s := congrArg Kept.unjudged h

theorem enterLink (h : r.Judged s) (new : LinkState) (cause : LinkCause) : r.Judged (s.enterLink new cause) :=
  Eq.trans (of_keeps (s.enterLink_keeps new cause)) h

theorem judgeLink (h : r.Judged s) (cause : LinkCause) : r.Judged (s.judgeLink cause) := by
  unfold State.judgeLink
  split
  next =>
    split
    next => exact h
    next => exact h.enterLink _ _
  next => exact h

theorem settle (h : r.Judged s) : r.Judged s.settle := h.trans (of_keeps s.settle_kept)

theorem tec (h : r.Judged s) : s.tet.tec = r.tet.tec := congrArg Kept.tec h
theorem recErrors (h : r.Judged s) : s.tet.recErrors = r.tet.recErrors := congrArg Kept.recErrors h
theorem heard (h : r.Judged s) : s.tet.heard = r.tet.heard := congrArg Kept.heard h
theorem lastBeacon (h : r.Judged s) : s.tet.lastBeacon = r.tet.lastBeacon := congrArg Kept.lastBeacon h
theorem status (h : r.Judged s) : s.tet.status = r.tet.status := congrArg Kept.status h
theorem beaconTime (h : r.Judged s) : s.tet.beaconTime = r.tet.beaconTime := congrArg Kept.beaconTime h
theorem lossDue (h : r.Judged s) : s.tet.lossDue = r.tet.lossDue := congrArg Kept.lossDue h
theorem inbox (h : r.Judged s) : s.tet.inbox = r.tet.inbox := congrArg Kept.inbox h
theorem delivered (h : r.Judged s) : s.tet.delivered = r.tet.delivered := congrArg Kept.delivered h
theorem declined (h : r.Judged s) : s.tet.declined = r.tet.declined := congrArg Kept.declined h
theorem settings (h : r.Judged s) : s.settings = r.settings := congrArg Kept.settings h
theorem sup (h : r.Judged s) : s.sup = r.sup := congrArg Kept.sup h

end State.Judged

/-- A rejoin count of 0 stays 0 when the link is judged. -/
theorem State.judgeLink_rejoin {s : State} (zero : s.tet.rejoin = 0) (cause : LinkCause) : (s.judgeLink cause).tet.rejoin = 0 := by
  unfold State.judgeLink
  split
  next =>
    split
    next => exact zero
    next => exact (congrArg Kept.rejoin (s.enterLink_keeps _ cause)).trans (by dsimp [State.kept]; rw [zero, ite_self])
  next => exact zero

/-- Below 256 TEC does not cut the link. -/
theorem linkJudged_ne_cut {tec : Nat} (h : tec < 256) (rec : Nat) : linkJudged tec rec ≠ .cut := by
  unfold linkJudged
  rw [if_neg (Nat.not_le.mpr h)]
  split
  next => exact LinkState.noConfusion
  next => split <;> exact LinkState.noConfusion

/-- Below 256 TEC leaves the active transfer as it is. -/
theorem State.judgeLink_transfer {s : State} (h : s.tet.tec < 256) (cause : LinkCause) :
    (s.judgeLink cause).tet.transfer = s.tet.transfer := by
  unfold State.judgeLink
  split
  next =>
    split
    next => rfl
    next => exact s.enterLink_transfer (linkJudged_ne_cut h _) cause
  next => rfl

namespace State.Judged
variable {r s : State} (h : r.Judged s)
include h

/-- A good frame lowers REC (R163). -/
theorem goodFrame : (r.setTet { r.tet with recErrors := r.tet.recErrors - 1 }).Judged s.goodFrame := by
  have counted := congrArg (fun k : Kept => { k with recErrors := k.recErrors - 1 }) h
  refine judgeLink ?_ .counters
  exact counted

/-- A bad frame raises REC (R163). -/
theorem badFrame : (r.setTet { r.tet with recErrors := min 255 (r.tet.recErrors + 1) }).Judged s.badFrame := by
  have counted := congrArg (fun k : Kept => { k with recErrors := min 255 (k.recErrors + 1) }) h
  refine judgeLink ?_ .counters
  exact counted

/-- TEC rises by 8, to at most 263 (R163). -/
theorem raiseTec : (r.setTet { r.tet with tec := min 263 (r.tet.tec + 8) }).Judged s.raiseTec := by
  have counted := congrArg (fun k : Kept => { k with tec := min 263 (k.tec + 8) }) h
  refine judgeLink ?_ .counters
  exact counted

/-- TEC falls by 1 (R163). -/
theorem lowerTec : (r.setTet { r.tet with tec := r.tet.tec - 1 }).Judged s.lowerTec := by
  have counted := congrArg (fun k : Kept => { k with tec := k.tec - 1 }) h
  refine judgeLink ?_ .counters
  exact counted

end State.Judged

/-- A bad frame clears the rejoin count (R165). -/
theorem State.badFrame_rejoin (s : State) : s.badFrame.tet.rejoin = 0 := State.judgeLink_rejoin rfl _

/-! ### The transfer's events (R168 to R174) -/

theorem State.Keeps.mapTransfer {r s : State} (h : r.Keeps s) (f : Transfer → Transfer) : r.Keeps (s.mapTransfer f) :=
  h.setTet _ rfl

theorem State.Keeps.endTransfer {r s : State} (h : r.Keeps s) (x : Transfer) : r.Keeps (s.endTransfer x) := by
  have ended := (h.setTet { s.tet with transfer := none } rfl).notify .linkAsk
  unfold State.endTransfer; dsimp only
  split
  next => exact ended
  next => exact ended.removeItem _

namespace State.Judged
variable {r s : State} (h : r.Judged s)
include h

/-- The offer sent again raises TEC (R168). -/
theorem offerAgain : (r.setTet { r.tet with tec := min 263 (r.tet.tec + 8) }).Judged s.offerAgain := by
  refine h.raiseTec.trans (.of_keeps ?_)
  unfold State.offerAgain; dsimp only
  split
  next => exact .refl _
  next => exact ((State.Keeps.refl _).mapTransfer _).pushTx _

/-- The go-back raises TEC (R172). -/
theorem goBack : (r.setTet { r.tet with tec := min 263 (r.tet.tec + 8) }).Judged s.goBack :=
  h.raiseTec.trans (.of_keeps ((State.Keeps.refl _).mapTransfer _))

/-- A delivery counts, and leaves the rest of what a step's end leaves alone (R174). -/
theorem deliver (x : Transfer) (d : Delivery) :
    (r.setTet { r.tet with delivered := next32 r.tet.delivered }).Judged (s.deliver x d) := by
  have counted := congrArg (fun k : Kept => { k with delivered := next32 k.delivered }) h
  exact .trans (s := s.setTet { s.tet with delivered := next32 s.tet.delivered }) counted
    (.of_keeps (((State.Keeps.refl _).raise _ _).endTransfer x))

/-- A refusal counts, and leaves the rest of what a step's end leaves alone (R174). -/
theorem refuseTransfer (x : Transfer) (reason : DeclineReason) :
    (r.setTet { r.tet with declined := next32 r.tet.declined }).Judged (s.refuseTransfer x reason) := by
  have counted := congrArg (fun k : Kept => { k with declined := next32 k.declined }) h
  exact .trans (s := s.setTet { s.tet with declined := next32 s.tet.declined }) counted
    (.of_keeps (((State.Keeps.refl _).raise _ _).endTransfer x))

/-- A NAK that goes back raises TEC (R173). -/
theorem nakTransfer {x : Transfer} {index : Nat} (notOld : x.acked ≤ index) :
    (r.setTet { r.tet with tec := min 263 (r.tet.tec + 8) }).Judged (s.nakTransfer x index) := by
  unfold State.nakTransfer
  rw [if_neg (Nat.not_lt.mpr notOld)]
  exact h.raiseTec.trans (.of_keeps ((State.Keeps.refl _).mapTransfer _))

/-- An ACK of a later segment lowers TEC, and one of the last segment delivers the transfer: with TEC at most 256 before
it, the link is not cut, so the transfer is still there (R171, R174). -/
theorem ackTransfer {x : Transfer} {index : Nat} (active : s.tet.transfer = some x) (later : x.acked < index)
    (low : r.tet.tec ≤ 256) (credit : Nat) :
    (r.setTet { r.tet with tec := r.tet.tec - 1,
                           delivered := if index = x.segments then next32 r.tet.delivered else r.tet.delivered }).Judged
      (s.ackTransfer x index credit) := by
  have below : s.tet.tec - 1 < 256 := by rw [h.tec]; omega
  unfold State.ackTransfer
  rw [if_neg (Nat.lt_asymm later), if_neg (Nat.ne_of_gt later)]
  extract_lets _ next timer s1 s2
  have moved : r.Judged s1 := h.trans (of_keeps ((State.Keeps.refl s).mapTransfer _))
  have lowered := moved.lowerTec
  split
  next =>
    have stands : s2.tet.transfer = s1.tet.transfer := State.judgeLink_transfer below .counters
    rw [stands, show s1.tet.transfer = _ from congrArg (Option.map _) active]
    exact lowered.deliver _ _
  next => exact lowered

end State.Judged

end Sys2Proof.Machine
end

section
/-! PROOFS. The tether link's carrier, beacons and frames (Chapter 7), and the transfer's timers, the port and the
deadlines (Chapters 7 and 8). -/

namespace Sys2Proof.Machine.TetherLink
open Sys2Proof LensDrive PhaseMeasurement

/-! ### Carrier, beacons lost and REJOIN (R161, R162, R166) -/

theorem carrierUp_keeps {s : State} (down : s.tet.carrier = false) :
    (s.setTet { s.tet with carrier := true, state := .seeking }).Keeps s.carrierUp := by
  unfold State.carrierUp
  rw [if_neg (by simp [down])]
  exact State.enterLink_keeps _ .seeking .carrier

/-- The transfer goes back to the queue before the link goes DOWN. -/
theorem carrierDown_keeps {s : State} (up : s.tet.carrier = true) :
    (s.setTet { s.tet with carrier := false, state := .down, heard := false, lossDue := none, rejoin := 0 }).Keeps
      s.carrierDown := by
  have returned := (State.Keeps.refl s).returnTransfer false
  have ended := congrArg (fun k : Kept =>
    { k with carrier := false, linkState := LinkState.down, heard := false, lossDue := none, rejoin := 0 }) returned
  unfold State.carrierDown
  rw [if_pos up]
  exact (State.enterLink_keeps _ .down .carrier).trans ended

/-- The transfer goes back to the queue before the link seeks the station. -/
theorem loseBeacons_keeps {s : State} (heard : s.tet.heard = true) (up : s.tet.carrier = true) :
    (s.setTet { s.tet with state := .seeking, heard := false, lossDue := none, rejoin := 0 }).Keeps s.loseBeacons := by
  have returned := (State.Keeps.refl (s.setTet { s.tet with heard := false, lossDue := none, rejoin := 0 })).returnTransfer true
  have ended := congrArg (fun k : Kept => { k with linkState := LinkState.seeking }) returned
  unfold State.loseBeacons
  rw [if_pos (by simp [heard, up])]
  exact (State.enterLink_keeps _ .seeking .beaconLoss).trans ended

theorem rejoinLink_keeps (s : State) :
    (s.setTet { s.tet.cleared with
      state := if s.tet.heard ∧ s.tet.carrier then .linked else s.tet.state }).Keeps s.rejoinLink := by
  unfold State.rejoinLink
  extract_lets _ s1
  split
  next here =>
    rw [if_pos (by simpa [s1, Tet.cleared] using here)]
    split
    next linked =>
      have same : s1 = s.setTet { s.tet.cleared with state := .linked } := by rw [← linked]; rfl
      exact same ▸ (State.Keeps.refl s1).notify .linkAsk
    next => exact s1.enterLink_keeps .linked .rejoin
  next away =>
    rw [if_neg (by simpa [s1, Tet.cleared] using away)]
    exact State.Keeps.refl s1

/-! ### Beacons (R162, R165) -/

/-- In `t` the beacon taken in `r` is recorded, and the clocks and the settings are those of `r`. -/
structure Recorded (r : State) (counter : Nat) (status : StationStatus) (t : State) : Prop where
  heard : t.tet.heard = true
  lastBeacon : t.tet.lastBeacon = some counter
  status : t.tet.status = some status
  beaconTime : t.tet.beaconTime = some r.sup.timeBase
  lossDue : t.tet.lossDue = some (r.sup.elapsed + 1000000)
  settings : t.settings = r.settings
  sup : t.sup = r.sup

section Beacon
variable {r s t : State} {counter : Nat} {status : StationStatus} (h : Recorded r counter status s)
include h

theorem Recorded.judged (judged : s.Judged t) : Recorded r counter status t where
  heard := judged.heard.trans h.heard
  lastBeacon := judged.lastBeacon.trans h.lastBeacon
  status := judged.status.trans h.status
  beaconTime := judged.beaconTime.trans h.beaconTime
  lossDue := judged.lossDue.trans h.lossDue
  settings := judged.settings.trans h.settings
  sup := judged.sup.trans h.sup

/-- A beacon counted in CUT moves the counters and the link state alone. -/
theorem Recorded.countBeacon (inSeq : Bool) : Recorded r counter status (s.countBeacon inSeq) := by
  obtain ⟨heard, lastBeacon, known, beaconTime, lossDue, settings, sup⟩ := h
  unfold State.countBeacon
  extract_lets n
  split
  next =>
    have cleared : Recorded r counter status (s.setTet s.tet.cleared) :=
      ⟨heard, lastBeacon, known, beaconTime, lossDue, settings, sup⟩
    exact cleared.judged (.enterLink (.refl _) _ _)
  next => exact ⟨heard, lastBeacon, known, beaconTime, lossDue, settings, sup⟩

end Beacon

/-- The beacon is recorded whatever it does to the link. -/
theorem takeBeacon_recorded {r s : State} (sup : s.sup = r.sup) (settings : s.settings = r.settings) (counter : Nat)
    (status : StationStatus) : Recorded r counter status (s.takeBeacon counter status) := by
  have recorded : Recorded r counter status (s.recordBeacon counter status) :=
    ⟨rfl, rfl, rfl, by rw [← sup]; rfl, by rw [← sup]; rfl, settings, sup⟩
  unfold State.takeBeacon
  extract_lets s1 s2
  split
  next =>
    have told : Recorded r counter status s2 := by
      unfold s2
      split
      next => exact recorded
      next => exact recorded.judged (.of_keeps (((State.Keeps.refl s1).raise _ _).notify _))
    split
    next => exact told.countBeacon _
    next => exact told
  next => exact recorded.judged (.enterLink (.refl _) _ _)

/-! ### Frames of the station (R158) -/

/-- The part runs, has carrier, and knows a station. -/
structure Hears (s : State) : Prop where
  running : s.held = false
  carrier : s.tet.carrier = true
  station : s.settings.tether.station ≠ 0

/-- A frame that is not malformed is good: it is taken, and the step carried to its end. -/
theorem Hears.event_receive {s : State} (h : Hears s) {f : StationFrame} (formed : s.malformed f = false) :
    s.event (fun y => y.receive f) = (s.takeGood f).settle := by
  have heard : (s.tet.carrier && s.settings.tether.station != 0) = true := by simpa [h.carrier] using h.station
  rw [event_of_running h.running, State.receive, if_pos heard, State.judgeStation, formed, if_neg Bool.false_ne_true]

theorem formed_of_credit {s : State} {x : Transfer} {f : StationFrame} (active : s.tet.transfer = some x)
    (credit : f.badCredit = false) (index : f.badIndex x = false) : s.malformed f = false := by
  simp [State.malformed, active, credit, index]

theorem transferOf_own {s : State} {x : Transfer} (active : s.tet.transfer = some x) : s.transferOf x.id = some x := by
  simp [State.transferOf, active]

theorem badCredit_accept {credit : Nat} (low : 1 ≤ credit) (high : credit ≤ 64) (id start : Nat) :
    (StationFrame.accept id start credit).badCredit = false := by
  simp [StationFrame.badCredit]; omega

theorem badCredit_ack {credit : Nat} (low : 1 ≤ credit) (high : credit ≤ 64) (id index : Nat) :
    (StationFrame.ack id index credit).badCredit = false := by
  simp [StationFrame.badCredit]; omega

/-- A PULL that DORMANT, the inbox and the settings leave to the host joins the inbox (R198, R200). -/
theorem takePull_joins {r s : State} (h : r.Judged s) {id n priority : Nat} {k : PullKind} (awake : r.sup.power ≠ .dormant)
    (new : ∀ q ∈ r.tet.inbox, q.id ≠ id) (manual : r.settings.tether.autoAnswer k = false) (room : r.tet.inbox.length < 8) :
    (r.setTet { r.tet with inbox := r.tet.inbox ++ [{ id := id, kind := k, shot := n, priority := priority,
                                                      time := r.sup.timeBase }] }).Judged (s.takePull id k n priority) := by
  have joined := congrArg (fun q : Kept => { q with
    inbox := q.inbox ++ [({ id := id, kind := k, shot := n, priority := priority, time := q.sup.timeBase } : Pull)] }) h
  have awake' : s.sup.power ≠ .dormant := by rwa [h.sup]
  have unknown : s.tet.inbox.any (·.id == id) = false := by rw [h.inbox, List.any_eq_false]; simpa using new
  have manual' : s.settings.tether.autoAnswer k = false := by rwa [h.settings]
  have room' : ¬ Config.inbox ≤ s.tet.inbox.length := by rw [h.inbox]; exact Nat.not_le.mpr room
  unfold State.takePull
  rw [if_neg awake', unknown, if_neg Bool.false_ne_true, manual', if_neg Bool.false_ne_true, State.inboxPull, if_neg room']
  refine State.Judged.trans ?_ (.of_keeps ((State.Keeps.refl _).raise _ _))
  exact joined

/-! ### The obligations of the carrier, the beacons and the station's frames -/

/-- Settles O58: what a step's end leaves alone after the carrier, a beacon or its loss, and a frame that is not good. -/
theorem carrierAndBeaconsMoveTheLink : Obligations.CarrierAndBeaconsMoveTheLink := by
  unfold Obligations.CarrierAndBeaconsMoveTheLink
  refine ⟨?up, ?down, ?beacon, ?loss, ?bad, ?disregarded⟩
  case up =>
    intro s held down
    have kept := (carrierUp_keeps down).drain 4096
    exact ⟨_, congrArg Host.Outcome.next (event_of_running held State.carrierUp), congrArg Kept.carrier kept,
      congrArg Kept.linkState kept, congrArg Kept.tec kept, congrArg Kept.recErrors kept, congrArg Kept.settings kept,
      congrArg Kept.sup kept⟩
  case down =>
    intro s held up
    have kept := (carrierDown_keeps up).drain 4096
    exact ⟨_, congrArg Host.Outcome.next (event_of_running held State.carrierDown), congrArg Kept.carrier kept,
      congrArg Kept.linkState kept, congrArg Kept.heard kept, congrArg Kept.lossDue kept, congrArg Kept.rejoin kept,
      congrArg Kept.tec kept, congrArg Kept.recErrors kept, congrArg Kept.settings kept, congrArg Kept.sup kept⟩
  case beacon =>
    intro s counter status held up station
    have formed : s.malformed (.beacon counter status) = false := by
      cases e : s.tet.transfer <;> simp [State.malformed, StationFrame.badCredit, StationFrame.badIndex, e]
    have good := (State.Judged.refl s).goodFrame
    obtain ⟨heard, lastBeacon, known, beaconTime, lossDue, settings, sup⟩ :=
      (takeBeacon_recorded good.sup good.settings counter status).judged (.settle (.refl _))
    exact ⟨_, congrArg Host.Outcome.next (Hears.event_receive ⟨held, up, station⟩ formed), heard, lastBeacon, known,
      beaconTime, lossDue, settings, sup⟩
  case loss =>
    intro s due held up heard lossDue
    have kept := (loseBeacons_keeps (s := s.carryTo due) (by simpa using heard) (by simpa using up)).drain 4096
    rw [State.carryTo_tet] at kept
    exact ⟨_, congrArg Host.Outcome.next (timer_of_due held lossDue State.loseBeacons), congrArg Kept.linkState kept,
      congrArg Kept.heard kept, congrArg Kept.lossDue kept, congrArg Kept.rejoin kept, congrArg Kept.tec kept,
      congrArg Kept.recErrors kept, (congrArg Kept.settings kept).trans (State.carryTo_settings s due), congrArg Kept.sup kept⟩
  case bad =>
    intro s frame held up bad
    have judged := (State.Judged.refl s).badFrame.settle
    have received : s.receiveFrame frame = s.badFrame := by simp only [State.receiveFrame, up, bad, if_true]
    refine ⟨s.badFrame.settle, ?_, judged.recErrors, ?_, judged.tec, judged.heard, judged.settings, judged.sup⟩
    · rw [← received]; exact congrArg Host.Outcome.next (event_of_running held fun y => y.receiveFrame frame)
    · exact (congrArg Kept.rejoin s.badFrame.settle_kept).trans s.badFrame_rejoin
  case disregarded =>
    intro s frame held steady up disregarded
    have received : s.receiveFrame frame = s := by simp only [State.receiveFrame, up, disregarded, if_true]
    have taken := event_of_running held fun y => y.receiveFrame frame
    rw [received, steadyStepEndChangesNothing s steady] at taken
    exact congrArg Host.Outcome.next taken

/-- Settles O59: each good frame lowers REC, then does what it does to the active transfer or the inbox. -/
theorem stationFramesDriveTheTransfer : Obligations.StationFramesDriveTheTransfer := by
  unfold Obligations.StationFramesDriveTheTransfer
  refine ⟨?accept, ?haveIt, ?refuse, ?ack, ?nak, ?pull⟩
  case accept =>
    intro s x start credit held up station good active offered early low high
    have formed := formed_of_credit active (badCredit_accept low high x.id start)
      (by simpa [StationFrame.badIndex] using early)
    have taken : s.takeGood (.accept x.id start credit) = s.goodFrame.acceptTransfer start credit := by
      simp only [State.takeGood, State.takeAccept, transferOf_own good]
    refine (congrArg Host.Outcome.next (Hears.event_receive ⟨held, up, station⟩ formed)).trans ?_
    rw [taken, State.acceptTransfer, State.mapTransfer, good, Option.map_some, offered]; rfl
  case haveIt =>
    intro s x held up station good active
    have formed : s.malformed (.refuse x.id .haveIt) = false := formed_of_credit active rfl rfl
    have taken : s.takeGood (.refuse x.id .haveIt) = s.goodFrame.deliver x .haveIt := by
      simp only [State.takeGood, State.takeRefuse, transferOf_own good]
    have judged := ((State.Judged.refl s).goodFrame.deliver x .haveIt).settle
    rw [← taken] at judged
    exact ⟨_, congrArg Host.Outcome.next (Hears.event_receive ⟨held, up, station⟩ formed), judged.delivered, judged.declined,
      judged.recErrors, judged.settings, judged.sup⟩
  case refuse =>
    intro s x r held up station good active other
    have formed : s.malformed (.refuse x.id r) = false := formed_of_credit active rfl rfl
    obtain ⟨reason, taken⟩ : ∃ reason, s.takeGood (.refuse x.id r) = s.goodFrame.refuseTransfer x reason := by
      simp only [State.takeGood, State.takeRefuse, transferOf_own good]
      cases r with
      | haveIt => exact absurd rfl other
      | declined => exact ⟨_, rfl⟩
      | noSpace => exact ⟨_, rfl⟩
    have judged := ((State.Judged.refl s).goodFrame.refuseTransfer x reason).settle
    rw [← taken] at judged
    exact ⟨_, congrArg Host.Outcome.next (Hears.event_receive ⟨held, up, station⟩ formed), judged.declined, judged.delivered,
      judged.recErrors, judged.settings, judged.sup⟩
  case ack =>
    intro s x index credit held up station good active sending later marked low high tec
    have formed := formed_of_credit active (badCredit_ack low high x.id index) (by simpa [StationFrame.badIndex] using marked)
    have taken : s.takeGood (.ack x.id index credit) = s.goodFrame.ackTransfer x index credit := by
      simp only [State.takeGood, State.takeAck, transferOf_own good, sending]
    have judged := ((State.Judged.refl s).goodFrame.ackTransfer good later tec credit).settle
    rw [← taken] at judged
    exact ⟨_, congrArg Host.Outcome.next (Hears.event_receive ⟨held, up, station⟩ formed), judged.tec, judged.delivered,
      judged.recErrors, judged.settings, judged.sup⟩
  case nak =>
    intro s x index held up station good active sending notOld marked
    have formed : s.malformed (.nak x.id index) = false :=
      formed_of_credit active rfl (by simpa [StationFrame.badIndex] using marked)
    have taken : s.takeGood (.nak x.id index) = s.goodFrame.nakTransfer x index := by
      simp only [State.takeGood, State.takeNak, transferOf_own good, sending]
    have judged := ((State.Judged.refl s).goodFrame.nakTransfer notOld).settle
    rw [← taken] at judged
    exact ⟨_, congrArg Host.Outcome.next (Hears.event_receive ⟨held, up, station⟩ formed), judged.tec, judged.delivered,
      judged.recErrors, judged.settings, judged.sup⟩
  case pull =>
    intro s pull n priority k held up station awake new manual room
    have formed : s.malformed (.pull pull k n priority) = false := by
      cases e : s.tet.transfer <;> simp [State.malformed, StationFrame.badCredit, StationFrame.badIndex, e]
    have judged := (takePull_joins (State.Judged.refl s).goodFrame (n := n) (priority := priority) awake new manual room).settle
    exact ⟨_, congrArg Host.Outcome.next (Hears.event_receive ⟨held, up, station⟩ formed), judged.inbox, judged.recErrors,
      judged.settings, judged.sup⟩

/-! ### The transfer's timers and the port (R159, R168, R170, R172) -/

theorem ackTimer_of_active {s : State} {x : Transfer} (active : s.tet.transfer = some x) :
    s.tet.ackTimer x.state = x.ackDue := by
  simp [Tet.ackTimer, active]

theorem portFree_of_control {s : State} {f : RelayFrame} {fs : List RelayFrame} (waiting : s.tet.tx = f :: fs) :
    s.portFree = (s.setTet { s.tet with tx := fs }).send f := by
  simp only [State.portFree, waiting]

/-- A segment may go in SENDING, within the credit and while one is left (R170). -/
theorem maySend_iff (s : State) (x : Transfer) :
    s.maySend x = true ↔ x.state = .sending ∧ x.next - x.acked < s.effectiveCredit x ∧ x.next < x.segments := by
  simp [State.maySend, and_assoc]

theorem portFree_of_segment {s : State} {x : Transfer} (quiet : s.tet.tx = []) (active : s.tet.transfer = some x)
    (may : s.maySend x = true) :
    s.portFree = (s.setTet { s.tet with transfer := some (s.afterSegment x) }).send (s.segment x) := by
  simp only [State.portFree, quiet, active, may, if_true, State.mapTransfer, Option.map_some]

theorem portFree_of_none {s : State} (quiet : s.tet.tx = []) (none : s.tet.transfer = none) :
    s.portFree = s.setTet { s.tet with wire := .none } := by
  simp only [State.portFree, quiet, none]

theorem portFree_of_waiting {s : State} {x : Transfer} (quiet : s.tet.tx = []) (active : s.tet.transfer = some x)
    (mayNot : s.maySend x = false) : s.portFree = s.setTet { s.tet with wire := none } := by
  simp only [State.portFree, quiet, active, mayNot, if_false, Bool.false_eq_true]

theorem exec_portFree {s : State} (held : s.held = false) : exec .portFree s = .next s.portFree.settle :=
  congrArg Host.Outcome.next (event_of_running held State.portFree)

/-! ### Deadlines (R190) -/

theorem mapItem_eq (s : State) (m : Nat) (f : Item → Item) :
    s.mapItem m f = s.setTet { s.tet with items := s.tet.items.map fun x => if x.number = m then f x else x } := by
  simp only [State.mapItem, beq_iff_eq]

/-- At its deadline's expiry the time base stands at the deadline or past it. -/
theorem deadline_reached (s : State) {d : Nat} (inRange : d < 2 ^ 64) : ¬ (s.carryToTime d).sup.timeBase < d := by
  rw [carryToTime_timeBase s inRange]; omega

theorem exec_deadlineExpiry {s : State} {m d : Nat} {x : Item} (held : s.held = false)
    (found : s.tet.items.find? (·.number == m) = some x) (deadline : x.deadline = some d) :
    exec (.deadlineExpiry m) s = .next ((s.carryToTime d).expireItem m).settle :=
  congrArg Host.Outcome.next
    (timeTimer_of_due held (by rw [Tet.deadlineOf, Tet.item, found]; exact deadline) fun y => y.expireItem m)

/-- A KEEP item is marked overdue, once. -/
theorem expireItem_of_keep {s : State} {m d : Nat} {x : Item} (found : s.tet.item m = some x) (deadline : x.deadline = some d)
    (reached : ¬ s.sup.timeBase < d) (policy : x.policy = .keep) (first : x.overdue = false) :
    s.expireItem m = (s.mapItem m fun y => { y with overdue := true }).raise .tetherOverdue (overdueFields x d) := by
  simp only [State.expireItem, found, deadline, if_neg reached, policy, first, Bool.false_eq_true, if_false]

/-- A DROP item is counted and removed. -/
theorem expireItem_of_drop {s : State} {m d : Nat} {x : Item} (found : s.tet.item m = some x) (deadline : x.deadline = some d)
    (reached : ¬ s.sup.timeBase < d) (policy : x.policy = .drop) :
    s.expireItem m = ((s.setTet { s.tet with expired := next32 s.tet.expired }).raise .tetherExpired
      (overdueFields x d ++ opt (le 4) (s.ackedOf x))).removeItem x := by
  simp only [State.expireItem, found, deadline, if_neg reached, policy]

/-- Settles O60: the two expiries of the ack timer, the port by what there is to send, and deadlines by their policy. -/
theorem transferTimersThePortAndDeadlines : Obligations.TransferTimersThePortAndDeadlines := by
  unfold Obligations.TransferTimersThePortAndDeadlines
  refine ⟨?offer, ?segment, ?control, ?sends, ?noTransfer, ?waits, ?keep, ?drop⟩
  case offer =>
    intro s x due held active offered ackDue
    have judged := (State.Judged.refl (s.carryTo due)).offerAgain.settle
    rw [State.carryTo_tet] at judged
    have timer : s.tet.ackTimer .offered = some due := by rw [← offered, ackTimer_of_active active, ackDue]
    exact ⟨_, congrArg Host.Outcome.next (timer_of_due held timer State.offerAgain), judged.tec, judged.recErrors,
      judged.settings.trans (State.carryTo_settings s due), judged.sup⟩
  case segment =>
    intro s x due held active sending ackDue
    have judged := (State.Judged.refl (s.carryTo due)).goBack.settle
    rw [State.carryTo_tet] at judged
    have timer : s.tet.ackTimer .sending = some due := by rw [← sending, ackTimer_of_active active, ackDue]
    exact ⟨_, congrArg Host.Outcome.next (timer_of_due held timer State.goBack), judged.tec, judged.recErrors,
      judged.settings.trans (State.carryTo_settings s due), judged.sup⟩
  case control =>
    intro s f fs held waiting
    rw [exec_portFree held, portFree_of_control waiting]; rfl
  case sends =>
    intro s x held quiet active sending credit more
    rw [exec_portFree held, portFree_of_segment quiet active ((maySend_iff s x).mpr ⟨sending, credit, more⟩)]; rfl
  case noTransfer =>
    intro s held quiet noTransfer
    rw [exec_portFree held, portFree_of_none quiet noTransfer]; rfl
  case waits =>
    intro s x held quiet active waits
    have mayNot : s.maySend x = false := by
      rw [← Bool.not_eq_true, maySend_iff]
      rintro ⟨sending, credit, more⟩
      rcases waits with offered | spent | sent
      · exact offered sending
      · exact Nat.not_lt.mpr spent credit
      · exact Nat.not_lt.mpr sent more
    rw [exec_portFree held, portFree_of_waiting quiet active mayNot]; rfl
  case keep =>
    intro s m d x held found deadline inRange policy first y
    have there : (s.carryToTime d).tet.item m = some x := by rwa [State.carryToTime_tet]
    rw [exec_deadlineExpiry held found deadline, expireItem_of_keep there deadline (deadline_reached s inRange) policy first,
      mapItem_eq]; rfl
  case drop =>
    intro s m d x held found deadline inRange policy y
    have there : (s.carryToTime d).tet.item m = some x := by rwa [State.carryToTime_tet]
    rw [exec_deadlineExpiry held found deadline, expireItem_of_drop there deadline (deadline_reached s inRange) policy,
      State.ackedOf, State.carryToTime_tet]; rfl

end Sys2Proof.Machine.TetherLink
end

section
/-! PROOFS. The host's answers to the station's pulls, and REJOIN (Chapters 7 and 8). -/

namespace Sys2Proof.Machine.TetherPulls
open Sys2Proof LensDrive

/-! ### An item made for a picture that is there (R180 to R184) -/

/-- The item a request makes (R180). -/
def newItem (s : State) (n : Nat) (k : Pict) (priority : Nat) (deadline : Option Nat) (policy : Policy) (origin : Origin)
    (st : ItemState) : Item :=
  { number := s.tet.nextItem, shot := n, entry := s.entryOf n, kind := k, priority := priority, seq := s.tet.nextSeq,
    deadline := deadline, policy := policy, origin := origin, state := st, resume := none, overdue := false }

theorem notifyExpired_tet (s : State) (m : Nat) (deadline : Option Nat) : (s.notifyExpired m deadline).tet = s.tet := by
  unfold State.notifyExpired; split <;> simp

theorem itemReady_tet (s : State) (n : Nat) (k : Pict) : (s.itemReady n k).tet = s.tet := by
  rw [State.itemReady, State.notify_tet, State.notify_tet, State.placeTether]
  split
  next => rfl
  next => exact State.mapObj_tet ..

/-- A new item joins the queue, whatever its making brings. -/
theorem makeItem_items (s : State) (n : Nat) (k : Pict) (priority : Nat) (deadline : Option Nat) (policy : Policy) (origin : Origin)
    (st : ItemState) : (s.makeItem n k priority deadline policy origin st).tet.items
      = s.tet.items ++ [newItem s n k priority deadline policy origin st] := by
  unfold State.makeItem; dsimp only
  split <;> simp only [itemReady_tet, notifyExpired_tet, State.setTet_tet, newItem]

/-- The item made is the one of its shot and kind, where there was none. -/
theorem find?_makeItem {s : State} {n : Nat} {k : Pict} (fresh : s.tet.items.find? (Item.is n k) = none) (priority : Nat)
    (deadline : Option Nat) (policy : Policy) (origin : Origin) (st : ItemState) :
    (s.makeItem n k priority deadline policy origin st).tet.items.find? (Item.is n k)
      = some (newItem s n k priority deadline policy origin st) := by
  rw [makeItem_items, List.find?_append, fresh]
  simp [newItem, Item.is]

theorem pushTx_items (s : State) (f : RelayFrame) : (s.pushTx f).tet.items = s.tet.items := by
  unfold State.pushTx; split <;> rfl

/-- A picture that stands complete in the buffer (R184, R185). -/
def Stands (sh : Shot) (k : Pict) : Prop := (k = .thumb → sh.thumb ≠ none) ∧ (k ≠ .thumb → (sh.obj k).any (·.complete) = true)

theorem findCommitted_of_stands {sh : Shot} {k : Pict} (stands : Stands sh k) (s : State) (i n m : Nat) :
    s.findCommitted i n sh k m = (s, .ready) := by
  obtain ⟨thumb, object⟩ := stands
  cases k with
  | thumb => simp [State.findCommitted, Option.isSome_iff_ne_none.mpr (thumb rfl)]
  | rendition =>
    obtain ⟨o, there, complete⟩ := (Option.any_eq_true _ _).mp (object Pict.noConfusion)
    simp only [State.findCommitted, show sh.rendition = some o from there, Obj.outcome, complete, if_true]
  | raw =>
    obtain ⟨o, there, complete⟩ := (Option.any_eq_true _ _).mp (object Pict.noConfusion)
    simp only [State.findCommitted, show sh.raw = some o from there, Obj.outcome, complete, if_true]

/-- A request for a standing picture of a fit shot, with no item of it and room, makes a READY item (R182, R189). -/
theorem requestItem_of_stands {s : State} {n i : Nat} {sh : Shot} {k : Pict} (found : s.committed n = some (i, sh))
    (buffered : sh.state = .buffered) (undeleted : sh.deleting = false) (fresh : s.tet.items.find? (Item.is n k) = none)
    (room : s.tet.items.length < 128) (stands : Stands sh k) (priority : Nat) (deadline : Option Nat) (policy : Policy)
    (origin : Origin) :
    s.requestItem n k priority deadline policy origin
      = (s.makeItem n k (if sh.urgent then max priority s.settings.tether.urgentLevel else priority) deadline policy origin .ready,
          .ready) := by
  have fit : ((s.committed n).any fun e => e.2.unfit) = false := by simp [found, Shot.unfit, buffered, undeleted]
  have space : ¬ Config.items ≤ s.tet.items.length := Nat.not_le.mpr room
  have picture : s.findPicture n k s.tet.nextItem = (s, .ready) := by
    simp only [State.findPicture, found, findCommitted_of_stands stands]
  have raised : s.raisedPriority n priority = if sh.urgent then max priority s.settings.tether.urgentLevel else priority := by
    simp only [State.raisedPriority, State.urgentShot, found]
  simp only [State.requestItem, fit, fresh, picture, raised, if_neg space, ItemOutcome.state, Bool.false_eq_true, if_false]

/-! ### ANSWER_PULL (R201) -/

theorem exec_answerPull {s : State} (h : s.Awake) (tag pull : Nat) (answer : Option PullAnswer) (priority : Nat) :
    exec (.answerPull tag pull answer priority) s
      = .next ((s.answerPull pull answer priority).state.settle.pushReply 0xD5 tag (s.answerPull pull answer priority).status
          (s.answerPull pull answer priority).rest) :=
  congrArg Host.Outcome.next (take_of_awake h 0x55 tag true fun y => y.answerPull pull answer priority)

theorem answerPull_of_held {s : State} {pull : Nat} {p : Pull} (held : s.tet.inbox.find? (·.id == pull) = some p)
    (answer : PullAnswer) (priority : Nat) : s.answerPull pull (some answer) priority = s.answerHeld p answer priority := by
  simp only [State.answerPull, held]

theorem answerPull_of_unheld {s : State} {pull : Nat} (unheld : s.tet.inbox.find? (·.id == pull) = none)
    (answer : PullAnswer) (priority : Nat) : s.answerPull pull (some answer) priority = s.refuse .state := by
  simp only [State.answerPull, unheld]

theorem answerHeld_list {p : Pull} (list : p.kind = .list) (s : State) (priority : Nat) :
    s.answerHeld p .accept priority = { state := (s.leaveInbox p).pushTx ((s.leaveInbox p).listFrame p.id p.shot), status := .ok,
                                        rest := answerFields none none } := by
  simp only [State.answerHeld, list]

theorem answerHeld_pict {p : Pull} {k : Pict} (kind : p.kind = .pict k) (s : State) (priority : Nat) :
    s.answerHeld p .accept priority = (s.leaveInbox p).acceptObject p k priority := by
  simp only [State.answerHeld, kind]

theorem clamped_above (priority : Nat) :
    Status.clamped (31 < priority) = if 31 < priority then Status.okClamped else Status.ok := by
  simp [Status.clamped]

/-- The fields of a READY item made with no deadline and KEEP (R201). -/
theorem answerFields_ready (s : State) (n priority : Nat) (k : Pict) (origin : Origin) :
    answerFields (some .ready) (some (newItem s n k priority none .keep origin .ready))
      = [1, 0] ++ [1] ++ le 4 s.tet.nextItem ++ [1, 2] ++ [1] ++ le 1 priority ++ [0] ++ [1] ++ code Policy.all .keep := rfl

/-- ACCEPT of an object asks for its item, and tells the station and the host. -/
theorem acceptObject_eq (s : State) (p : Pull) (k : Pict) (priority : Nat) :
    let r := s.requestItem p.shot k (min 31 priority) none .keep .station
    s.acceptObject p k priority =
      { state := r.1.pushTx (.pullReply p.id r.2.pullReply),
        status := if r.2 = .merged then .okMerged else if 31 < priority then .okClamped else .ok,
        rest := answerFields (some r.2) (if r.2.made then r.1.tet.items.find? (Item.is p.shot k) else none) } := by
  simp only [State.acceptObject, State.answerObject, pushTx_items, clamped_above]

/-- ACCEPT of a standing picture makes its item, and tells the station and the host. -/
theorem acceptObject_of_stands {s : State} {p : Pull} {i : Nat} {sh : Shot} {k : Pict} (found : s.committed p.shot = some (i, sh))
    (buffered : sh.state = .buffered) (undeleted : sh.deleting = false) (fresh : s.tet.items.find? (Item.is p.shot k) = none)
    (room : s.tet.items.length < 128) (stands : Stands sh k) (priority : Nat) :
    let n := if sh.urgent then max (min 31 priority) s.settings.tether.urgentLevel else min 31 priority
    s.acceptObject p k priority =
      { state := (s.makeItem p.shot k n none .keep .station .ready).pushTx (.pullReply p.id .accepted),
        status := if 31 < priority then .okClamped else .ok,
        rest := answerFields (some .ready) (some (newItem s p.shot k n none .keep .station .ready)) } := by
  intro n
  rw [acceptObject_eq, requestItem_of_stands found buffered undeleted fresh room stands]
  simp only [ItemOutcome.pullReply, ItemOutcome.made, if_true, reduceCtorEq, if_false]
  rw [find?_makeItem fresh]

/-! ### REJOIN (R166) -/

theorem exec_rejoin {s : State} (h : s.Awake) (tag : Nat) :
    exec (.rejoin tag) s
      = .next (s.rejoinLink.settle.pushReply 0xD6 tag .ok (le 2 s.tet.tec ++ le 1 s.tet.recErrors)) :=
  congrArg Host.Outcome.next (take_of_awake h 0x56 tag true State.rejoin)

/-! ### The obligation -/

/-- Settles O57: ANSWER_PULL by its answer and the pull's kind, each carried to the step's end, then REJOIN. -/
theorem pullsAreAnsweredAndTheLinkRejoined : Obligations.PullsAreAnsweredAndTheLinkRejoined := by
  unfold Obligations.PullsAreAnsweredAndTheLinkRejoined
  refine ⟨?refuse, ?list, ?object, ?standing, ?unheld, ?rejoin⟩
  case refuse =>
    intro s tag pull priority p awake held
    rw [exec_answerPull awake, answerPull_of_held held]; rfl
  case list =>
    intro s tag pull priority p awake held list
    rw [exec_answerPull awake, answerPull_of_held held, answerHeld_list list]; rfl
  case object =>
    intro s tag pull priority p k awake held kind r
    rw [exec_answerPull awake, answerPull_of_held held, answerHeld_pict kind, acceptObject_eq]; rfl
  case standing =>
    intro s tag pull priority i p sh k awake held kind found buffered undeleted fresh room thumb object n
    have accepted := acceptObject_of_stands (s := s.leaveInbox p) found buffered undeleted fresh room ⟨thumb, object⟩ priority
    rw [exec_answerPull awake, answerPull_of_held held, answerHeld_pict kind, accepted, answerFields_ready]; rfl
  case unheld =>
    intro s tag pull priority a awake steady unheld
    rw [exec_answerPull awake, answerPull_of_unheld unheld, State.refuse, steadyStepEndChangesNothing s steady]
  case rejoin =>
    intro s tag awake
    have kept := (TetherLink.rejoinLink_keeps s).drain 4096
    refine ⟨_, exec_rejoin awake tag, congrArg Kept.tec kept, congrArg Kept.recErrors kept, congrArg Kept.rejoin kept,
      congrArg Kept.linkState kept, congrArg Kept.carrier kept, congrArg Kept.heard kept, congrArg Kept.lastBeacon kept,
      congrArg Kept.settings kept, congrArg Kept.sup kept, ?_⟩
    have replies : s.rejoinLink.settle.link.replies = s.link.replies := congrArg Kept.replies kept
    rw [State.pushReply_replies, replies]

end Sys2Proof.Machine.TetherPulls
end

section
/-! PROOFS. Requests that merge, ENQUEUE and CANCEL_ITEM (Chapter 8). -/

namespace Sys2Proof.Machine.TetherQueue
open Sys2Proof LensDrive TetherPulls

/-! ### The merge of a request into an item (R183) -/

/-- The item's own deadline stays where none earlier is asked for; an earlier one comes with its policy. -/
theorem mergeDeadline_cases (own asked : Option Nat) (ownPolicy askedPolicy : Policy) :
    (mergeDeadline own ownPolicy asked askedPolicy = (own, ownPolicy) ∧ ∀ d, asked = some d → ∃ e, own = some e ∧ e ≤ d)
    ∨ (mergeDeadline own ownPolicy asked askedPolicy = (asked, askedPolicy) ∧ ∃ d, asked = some d ∧ ∀ e, own = some e → d < e) := by
  cases asked with
  | none => exact .inl ⟨by cases own <;> rfl, nofun⟩
  | some d =>
    cases own with
    | none => exact .inr ⟨rfl, d, rfl, nofun⟩
    | some e =>
      by_cases earlier : d < e
      · exact .inr ⟨if_pos earlier, by simpa using earlier⟩
      · exact .inl ⟨if_neg earlier, by simpa using earlier⟩

/-- The merged deadline is the earlier of the two, and the policy the one that came with it. -/
theorem merge_deadline (x : Item) (priority : Nat) (deadline : Option Nat) (policy : Policy) :
    let y := x.merge priority deadline policy
    (∀ d, y.deadline = some d → (∀ e, x.deadline = some e → d ≤ e) ∧ (∀ e, deadline = some e → d ≤ e))
    ∧ (y.deadline = x.deadline ∨ y.deadline = deadline) ∧ (y.deadline = none ↔ x.deadline = none ∧ deadline = none)
    ∧ (y.deadline = x.deadline → y.policy = x.policy) ∧ (y.deadline ≠ x.deadline → y.policy = policy) := by
  simp only [Item.merge]
  obtain ⟨merged, own⟩ | ⟨merged, d, rfl, asked⟩ := mergeDeadline_cases x.deadline deadline x.policy policy <;> rw [merged]
  · refine ⟨fun d is => ⟨fun e is' => ?_, fun e is' => ?_⟩, .inl rfl, ⟨fun absent => ⟨absent, ?_⟩, And.left⟩, fun _ => rfl, nofun⟩
    · exact Nat.le_of_eq (Option.some.inj (is.symm.trans is'))
    · obtain ⟨f, is'', le⟩ := own e is'
      exact Option.some.inj (is''.symm.trans is) ▸ le
    · refine Option.eq_none_iff_forall_ne_some.mpr fun e is => ?_
      obtain ⟨f, is', -⟩ := own e is
      exact Option.some_ne_none f (is'.symm.trans absent)
  · refine ⟨fun c is => ?_, .inr rfl, ⟨nofun, nofun⟩, fun same => ?_, fun _ => rfl⟩
    · obtain rfl := Option.some.inj is
      exact ⟨fun e is' => Nat.le_of_lt (asked e is'), fun e is' => Nat.le_of_eq (Option.some.inj is')⟩
    · exact absurd (asked d same.symm) (Nat.lt_irrefl d)

/-- The merged priority is the greater of the two. -/
theorem merge_priority (x : Item) (priority : Nat) (deadline : Option Nat) (policy : Policy) :
    let y := x.merge priority deadline policy
    x.priority ≤ y.priority ∧ priority ≤ y.priority ∧ (y.priority = x.priority ∨ y.priority = priority) := by
  simp only [Item.merge]; omega

theorem judgeRise_tet (s : State) (old new : Nat) (waiting : Bool) : (s.judgeRise old new waiting).tet = s.tet := by
  unfold State.judgeRise; split <;> simp

/-- A merge puts the merged item in the place of the item it merges into. -/
theorem mergeItem_items (s : State) (x : Item) (priority : Nat) (deadline : Option Nat) (policy : Policy) :
    (s.mergeItem x priority deadline policy).tet.items
      = s.tet.items.map fun y => if y.number = x.number then x.merge priority deadline policy else y := by
  simp only [State.mergeItem, judgeRise_tet, notifyExpired_tet, State.mapItem, State.setTet_tet, beq_iff_eq]

/-- Settles O55: the merge by its cases of R183, then its place among the items. -/
theorem mergesKeepTheItem : Obligations.MergesKeepTheItem :=
  ⟨fun x priority deadline policy =>
    have ⟨own, asked, oneOf⟩ := merge_priority x priority deadline policy
    ⟨rfl, rfl, rfl, rfl, rfl, rfl, rfl, rfl, rfl, own, asked, oneOf, merge_deadline x priority deadline policy⟩, mergeItem_items⟩

/-! ### A request judged (R182, R189) -/

theorem raisedPriority_of_committed {s : State} {n i : Nat} {sh : Shot} (found : s.committed n = some (i, sh)) (priority : Nat) :
    s.raisedPriority n priority = if sh.urgent then max priority s.settings.tether.urgentLevel else priority := by
  simp only [State.raisedPriority, State.urgentShot, found]

/-- A committed entry is unfit unless it is BUFFERED and no deletion is under way. -/
theorem unfit_iff (sh : Shot) : sh.unfit = true ↔ sh.state ≠ .buffered ∨ sh.deleting = true := by
  simp [Shot.unfit]

section Judged
variable {s : State} {n : Nat} {k : Pict} (priority : Nat) (deadline : Option Nat) (policy : Policy) (origin : Origin)

theorem requestItem_of_unfit {i : Nat} {sh : Shot} (found : s.committed n = some (i, sh)) (unfit : sh.unfit = true) :
    s.requestItem n k priority deadline policy origin = (s, .unfit) := by
  simp [State.requestItem, found, unfit]

/-- An item of the shot and kind takes the merge. -/
theorem requestItem_of_queued {x : Item} (fit : (s.committed n).any (fun e => e.2.unfit) = false)
    (queued : s.tet.items.find? (Item.is n k) = some x) :
    s.requestItem n k priority deadline policy origin
      = (s.mergeItem x (s.raisedPriority n priority) deadline policy, .merged) := by
  simp only [State.requestItem, fit, queued, Bool.false_eq_true, if_false]

theorem requestItem_of_full (fit : (s.committed n).any (fun e => e.2.unfit) = false)
    (fresh : s.tet.items.find? (Item.is n k) = none) (full : 128 ≤ s.tet.items.length) :
    s.requestItem n k priority deadline policy origin = (s, .queueFull) := by
  have noSpace : Config.items ≤ s.tet.items.length := full
  simp only [State.requestItem, fit, fresh, if_pos noSpace, Bool.false_eq_true, if_false]

end Judged

/-! ### ENQUEUE and CANCEL_ITEM (R194, R195) -/

/-- A taken ENQUEUE answers the outcome of its request, and the item where one was made or merged. -/
theorem exec_enqueue {s t : State} {n priority : Nat} {k : Pict} {deadline : Option Nat} {policy : Policy} {o : ItemOutcome}
    (h : s.Awake) (judged : s.requestItem n k (min 31 priority) deadline policy .host = (t, o)) (tag : Nat) :
    exec (.enqueue tag n (some k) priority (some deadline) (some policy)) s
      = .next (t.settle.pushReply 0xD2 tag (o.status (31 < priority)) (if o.made then t.itemBrief n k else [])) := by
  have taken := take_of_awake h 0x52 tag true fun y => y.enqueue n (some k) priority (some deadline) (some policy)
  simp only [State.enqueue, State.enqueueItem, judged] at taken
  exact congrArg Host.Outcome.next taken

/-- The reply's fields of an item made READY. -/
theorem itemBrief_makeItem {s : State} {n : Nat} {k : Pict} (fresh : s.tet.items.find? (Item.is n k) = none) (priority : Nat)
    (deadline : Option Nat) (policy : Policy) (origin : Origin) :
    (s.makeItem n k priority deadline policy origin .ready).itemBrief n k
      = le 4 s.tet.nextItem ++ [2] ++ le 1 priority ++ opt (le 8) deadline ++ code Policy.all policy := by
  rw [State.itemBrief, find?_makeItem fresh]; rfl

theorem exec_cancelItem {s : State} (h : s.Awake) (tag m : Nat) :
    exec (.cancelItem tag m) s
      = .next ((s.cancelItem m).state.settle.pushReply 0xD3 tag (s.cancelItem m).status (s.cancelItem m).rest) :=
  congrArg Host.Outcome.next (take_of_awake h 0x53 tag true fun y => y.cancelItem m)

theorem cancelItem_of_found {s : State} {m : Nat} {x : Item} (found : s.tet.items.find? (·.number == m) = some x) :
    s.cancelItem m = { state := s.removeItem x, status := .ok, rest := code ItemState.all x.state ++ opt (le 4) (s.ackedOf x) } := by
  simp only [State.cancelItem, Tet.item, found]

theorem cancelItem_of_absent {s : State} {m : Nat} (absent : s.tet.items.find? (·.number == m) = none) :
    s.cancelItem m = s.refuse .state := by
  simp only [State.cancelItem, Tet.item, absent]

/-- Settles O54: ENQUEUE by the outcome of its request, then CANCEL_ITEM by whether its item is there. -/
theorem itemsAreMadeMergedAndCancelled : Obligations.ItemsAreMadeMergedAndCancelled := by
  unfold Obligations.ItemsAreMadeMergedAndCancelled
  refine ⟨?made, ?merged, ?full, ?unfit, ?cancelled, ?absent⟩
  case made =>
    intro s tag n i sh k priority deadline policy awake found buffered undeleted fresh room thumb object p
    rw [exec_enqueue awake (requestItem_of_stands found buffered undeleted fresh room ⟨thumb, object⟩ ..), ItemOutcome.made,
      if_pos rfl, itemBrief_makeItem fresh, ItemOutcome.status, clamped_above]
  case merged =>
    intro s tag n i sh k priority deadline policy x awake found buffered undeleted queued p
    have fit : (s.committed n).any (fun e => e.2.unfit) = false := by simp [found, Shot.unfit, buffered, undeleted]
    rw [exec_enqueue awake (requestItem_of_queued _ deadline policy .host fit queued), raisedPriority_of_committed found]; rfl
  case full =>
    intro s tag n k priority deadline policy awake steady fit fresh full
    rw [exec_enqueue awake (requestItem_of_full _ deadline policy .host fit fresh full), steadyStepEndChangesNothing s steady]; rfl
  case unfit =>
    intro s tag n i sh k priority deadline policy awake steady found unfit
    rw [exec_enqueue awake (requestItem_of_unfit _ deadline policy .host found ((unfit_iff sh).mpr unfit)),
      steadyStepEndChangesNothing s steady]; rfl
  case cancelled =>
    intro s tag m x awake found
    rw [exec_cancelItem awake, cancelItem_of_found found, State.ackedOf]
  case absent =>
    intro s tag m awake steady absent
    rw [exec_cancelItem awake, cancelItem_of_absent absent, State.refuse, steadyStepEndChangesNothing s steady]

end Sys2Proof.Machine.TetherQueue
end

section
/-! PROOFS. What every row of the opcode table does to the waiting commands and to the count of elapsed time, in the
brown-out hold and in DORMANT (Chapters 9 and 10). -/

namespace Sys2Proof.Machine.EveryRow
open Sys2Proof LensDrive

/-! ### The waiting commands and the clock over a step -/

/-- What a row may do to the count of elapsed microseconds: one that carries the clock raises it or leaves it, any other
leaves it. -/
def clockMoves : Bool → Nat → Nat → Prop
  | true, before, after => before ≤ after
  | false, before, after => after = before

/-- The same commands wait in `s` as in `r`, and the clock has moved as such a row may move it. -/
structure Runs (carries : Bool) (r s : State) : Prop where
  pending : s.pending = r.pending
  clock : clockMoves carries r.sup.elapsed s.sup.elapsed

theorem Runs.of_same {carries : Bool} {r s : State} (pending : s.pending = r.pending) (elapsed : s.sup.elapsed = r.sup.elapsed) :
    Runs carries r s :=
  ⟨pending, match carries with | true => Nat.le_of_eq elapsed.symm | false => elapsed⟩

theorem Runs.refl {carries : Bool} (s : State) : Runs carries s s := .of_same rfl rfl

theorem Runs.trans {carries : Bool} {r s t : State} (h : Runs carries r s) (h' : Runs carries s t) : Runs carries r t :=
  ⟨h'.pending.trans h.pending, match carries, h.clock, h'.clock with
    | true, le, le' => Nat.le_trans le le'
    | false, eq, eq' => Eq.trans eq' eq⟩

/-- What a block does within a step moves neither. -/
theorem Runs.inner {carries : Bool} {r s t : State} (h : Runs carries r s) (inner : s.Inner t) : Runs carries r t :=
  h.trans (.of_same (congrArg Fixed.pending inner.fixed) (congrArg Fixed.elapsed inner.fixed))

theorem Runs.of_inner {carries : Bool} {s t : State} (inner : s.Inner t) : Runs carries s t := (Runs.refl s).inner inner

/-- The settings replaced, and then what a block does within a step. -/
theorem runs_of_settings {carries : Bool} {s t : State} {g : Settings} (inner : (s.setSettings g).Inner t) : Runs carries s t :=
  Runs.inner (s := s.setSettings g) (.of_same rfl rfl) inner

theorem Runs.settle {carries : Bool} {r s : State} (h : Runs carries r s) : Runs carries r s.settle :=
  h.inner (State.Inner.refl s).settle

theorem runs_elapse (s : State) (d : Nat) : Runs true s (s.elapse d) := ⟨rfl, Nat.le_add_right _ d⟩

theorem runs_carryTo (s : State) (d : Nat) : Runs true s (s.carryTo d) := by
  unfold State.carryTo; split
  · exact runs_elapse s _
  · exact .refl s

theorem runs_carryToTime (s : State) (t : Nat) : Runs true s (s.carryToTime t) := by
  unfold State.carryToTime; split
  · exact runs_elapse s _
  · exact .refl s

/-- A reset leaves the count of elapsed time as it is (log entry 1). -/
theorem runs_doReset (s : State) (cause : ResetCause) (reading : Nat) : Runs false s (s.doReset cause reading) := by
  have reset : Runs false s (s.afterReset cause reading) := .of_same rfl rfl
  unfold State.doReset; dsimp only
  split
  · exact reset
  · exact reset.inner ((State.Inner.refl _).raise _ _)

/-! ### A host command is taken (R221) -/

theorem runs_take {act : State → Answer} (h : ∀ x, Runs false x (act x).state) (s : State) (kind tag : Nat) (awake : Bool) :
    Runs false s (s.take kind tag awake act) := by
  unfold State.take
  split
  · exact .refl s
  split
  · exact .of_same rfl rfl
  split
  · exact .of_same rfl rfl
  · exact (h s).settle.trans (.of_same rfl rfl)

theorem take_of_held {s : State} (held : s.held = true) (kind tag : Nat) (awake : Bool) (act : State → Answer) :
    s.take kind tag awake act = s := if_pos held

theorem take_of_dormant {s : State} (h : s.Takes) (dormant : s.sup.power = .dormant) (kind tag : Nat) (act : State → Answer) :
    s.take kind tag true act = s.pushReply (kind + 128) tag .state [] := by
  simp [State.take, h.running, deaf_of_takes h, dormant, replyKind]

/-- A list of a wrong length makes the command one that answers BAD_LENGTH in every power state. -/
theorem takeSized_eq_take (s : State) (kind tag : Nat) (awake fits : Bool) (act : State → Answer) :
    s.takeSized kind tag awake fits act = s.take kind tag (fits && awake) fun x => if fits then act x else x.refuse .badLength := by
  cases fits <;> rfl

/-! ### What the commands' own effects do to the waiting commands and the clock -/

theorem runs_readReports (x : State) (count : Nat) (sel : Option LineSel) : Runs false x (x.readReports count sel).state :=
  match sel with
  | none => .refl x
  | some _ => .of_same rfl rfl

theorem runs_getStatus (x : State) (parts : List (Option StatusPart)) : Runs false x (x.getStatus parts).state := by
  unfold State.getStatus; split <;> exact .refl x

theorem runs_setRoutes (x : State) (pairs : List (Option ReportKind × Option Route)) : Runs false x (x.setRoutes pairs).state := by
  unfold State.setRoutes; split
  · exact .refl x
  · exact .of_same rfl rfl

theorem runs_setTime (x : State) (time : Nat) : Runs false x (x.setTime time).state := by
  unfold State.setTime; split
  · exact .refl x
  · exact .of_inner ((State.Inner.refl x).setTimeBase time)

theorem runs_askPower (x : State) (p : PowerState) : Runs false x (x.askPower p).state := by
  have self := State.Inner.refl x
  unfold State.askPower State.askDormant
  split
  next => exact .refl x
  next => exact .of_inner (self.setPowerState _)
  next => exact .of_inner (self.wokenTo _ _)
  next => exact .refl x
  next => split
          · exact .refl x
          · exact .of_inner self.sleep
  next => split
          · exact .refl x
          · exact .of_inner self.sleep
  next => exact .of_inner (self.wakeTo _ _)
  next => exact .of_inner (self.wakeTo _ _)
  next => exact .refl x

theorem runs_setPower (x : State) (target : Option PowerState) : Runs false x (x.setPower target).state :=
  match target with
  | none => .refl x
  | some p => runs_askPower x p

theorem runs_setThresholds (x : State) (low critical : Nat) : Runs false x (x.setThresholds low critical).state :=
  runs_of_settings (State.Inner.refl _).judgeLevel

theorem runs_saveSettings (x : State) : Runs false x x.saveSettings.state := by
  unfold State.saveSettings; split
  · exact .refl x
  · exact .of_same rfl rfl

theorem runs_useCapture (x : State) (c : CaptureSettings) : Runs false x (x.useCapture c) := by
  have set := State.Inner.refl (x.setSettings { x.settings with capture := c })
  unfold State.useCapture; dsimp only
  split
  · exact runs_of_settings set.driveReact
  · exact runs_of_settings set.dropTrigger.driveReact

theorem runs_setCapture (x : State) (a : CaptureArgs) : Runs false x (x.setCapture a).state := by
  unfold State.setCapture
  split
  · exact runs_useCapture x _
  · exact .refl x

theorem runs_release (x : State) (action : Option ReleaseAction) : Runs false x (x.release action).state :=
  match action with
  | none => .refl x
  | some _ => .of_inner (((State.Inner.refl x).setCap _).pressed _)

theorem runs_setShotBase (x : State) (number : Nat) : Runs false x (x.setShotBase number).state := by
  unfold State.setShotBase; split
  · exact .refl x
  · exact Runs.inner (s := x.setSbm { x.sbm with nextNumber := some (x.sbm.baseFor number) }) (.of_same rfl rfl)
      ((State.Inner.refl _).notify .evaluate)

theorem runs_setAf (x : State) (a : AfArgs) : Runs false x (x.setAf a).state := by
  unfold State.setAf; split
  · exact .refl x
  · exact runs_of_settings ((State.Inner.refl _).afChanged _)

theorem runs_setLens (x : State) (a : LensArgs) : Runs false x (x.setLens a).state := by
  have self := State.Inner.refl x
  unfold State.setLens
  split
  · exact .refl x
  split
  · exact .refl x
  split <;> exact .of_inner (self.fitLens _ _)

theorem runs_readShot (x : State) (n : Nat) : Runs false x (x.readShot n).state := by
  unfold State.readShot; split <;> exact .refl x

theorem runs_readThumb (x : State) (n offset length : Nat) : Runs false x (x.readThumb n offset length).state := by
  unfold State.readThumb
  split
  · exact .refl x
  split
  · exact .refl x
  split <;> exact .refl x

theorem runs_tagShot (x : State) (n : Nat) (urgent picked : Option TagAction) (rating : Option (Option Nat)) :
    Runs false x (x.tagShot n urgent picked rating).state := by
  unfold State.tagShot
  split
  · split
    · exact .refl x
    next found =>
      split
      · exact .refl x
      · exact .of_inner ((State.Inner.refl x).applyTags _ _ _ _ _ _ (State.committed_shot found).1)
  · exact .refl x

theorem runs_hold (x : State) (n : Nat) (kind : Option Pict) : Runs false x (x.hold n kind).state := by
  unfold State.hold; split
  · exact .refl x
  next p _ => exact .of_inner ((State.Inner.refl x).place p.1 p.2 .host)

theorem runs_unhold (x : State) (n : Nat) (kind : Option Pict) : Runs false x (x.unhold n kind).state := by
  unfold State.unhold; split
  · exact .refl x
  next p _ => exact .of_inner ((State.Inner.refl x).releaseHold p.1 p.2 .host)

theorem runs_askDelete (x : State) (n : Nat) : Runs false x (x.askDelete n).state := by
  unfold State.askDelete
  split
  · exact .refl x
  next e _ =>
    split
    · exact .refl x
    split
    · exact .refl x
    · dsimp only
      exact .of_inner ((State.Inner.refl x).deleteShot e.1 n)

theorem runs_setLook (x : State) (slot : Nat) (a : LookArgs) : Runs false x (x.setLook slot a).state := by
  unfold State.setLook
  split
  · split
    · exact .refl x
    · exact .of_same rfl rfl
  · exact .refl x

theorem runs_setCurve (x : State) (slot : Nat) (points : List Nat) : Runs false x (x.setCurve slot points).state := by
  unfold State.setCurve; split
  · exact .refl x
  · exact .of_same rfl rfl

theorem runs_developShot (x : State) (i n : Nat) (sh : Shot) (look : JobLook) : Runs false x (x.developShot i n sh look).state := by
  have self := State.Inner.refl x
  unfold State.developShot
  split
  · exact .refl x
  split
  · exact .refl x
  split
  · exact .refl x
  split
  · exact .of_inner (self.relookJob _ _)
  · exact .of_inner (self.requestJob _ _ _)

theorem runs_develop (x : State) (n slot : Nat) : Runs false x (x.develop n slot).state := by
  unfold State.develop
  split
  · exact .refl x
  split
  · exact .refl x
  · exact runs_developShot x _ _ _ _

theorem runs_setCardMode (x : State) (mode : Option CardMode) (content : Option CardContent) :
    Runs false x (x.setCardMode mode content).state := by
  unfold State.setCardMode; split
  · exact runs_of_settings (State.Inner.refl _).sweep
  · exact .refl x

theorem runs_grantWindow (x : State) (slot : Option Slot) (mount start length : Nat) :
    Runs false x (x.grantWindow slot mount start length).state := by
  unfold State.grantWindow State.grantOn
  split
  · exact .refl x
  split
  · exact .refl x
  split
  · exact .refl x
  · exact .of_inner ((State.Inner.refl x).grant _ _)

theorem recallAnswer_state (o : RecallOutcome) (x : State) (n : Nat) (k : Pict) : (o.answer x n k).state = x := by cases o <;> rfl

theorem runs_askRecall (x : State) (n : Nat) (kind : Option Pict) : Runs false x (x.askRecall n kind).state := by
  unfold State.askRecall
  split
  · exact .refl x
  · exact .refl x
  next k other =>
    rw [recallAnswer_state]
    exact .of_inner ((State.Inner.refl x).requestRecall n k true none other)

theorem runs_useTether (x : State) (t : TetherSettings) : Runs false x (x.useTether t) := by
  have set := State.Inner.refl (x.setSettings { x.settings with tether := t })
  unfold State.useTether; dsimp only
  split
  · exact runs_of_settings (((set.dropInbox _).stopRejoin).raiseLevel _)
  · exact runs_of_settings (((set.leaveStation.dropInbox _).stopRejoin).raiseLevel _)

theorem runs_setTether (x : State) (a : TetherArgs) : Runs false x (x.setTether a).state := by
  unfold State.setTether
  split
  · split
    · exact .refl x
    · exact runs_useTether x _
  · exact .refl x

theorem runs_setSendRule (x : State) (index : Nat) (a : RuleArgs) : Runs false x (x.setSendRule index a).state := by
  unfold State.setSendRule
  split
  · split
    · exact .refl x
    · exact .of_same rfl rfl
  · exact .refl x

theorem runs_enqueue (x : State) (n : Nat) (kind : Option Pict) (priority : Nat) (deadline : Option (Option Nat))
    (policy : Option Policy) : Runs false x (x.enqueue n kind priority deadline policy).state := by
  unfold State.enqueue; split
  · exact .of_inner ((State.Inner.refl x).requestItem _ _ _ _ _ _)
  · exact .refl x

theorem runs_cancelItem (x : State) (m : Nat) : Runs false x (x.cancelItem m).state := by
  unfold State.cancelItem; split
  · exact .refl x
  · exact .of_inner ((State.Inner.refl x).removeItem _)

theorem runs_answerHeld (x : State) (p : Pull) (answer : PullAnswer) (priority : Nat) :
    Runs false x (x.answerHeld p answer priority).state := by
  have left := (State.Inner.refl x).leaveInbox p
  unfold State.answerHeld; dsimp only
  split
  · exact .of_inner (left.pushTx _)
  · exact .of_inner (left.pushTx _)
  · exact .of_inner (left.answerObject _ _ _ _)

theorem runs_answerPull (x : State) (pull : Nat) (answer : Option PullAnswer) (priority : Nat) :
    Runs false x (x.answerPull pull answer priority).state := by
  unfold State.answerPull
  split
  · exact .refl x
  split
  · exact .refl x
  · exact runs_answerHeld x _ _ _

/-! ### Every host command is taken by its KIND -/

/-- R213: the commands taken in DORMANT are IDENTIFY, GET_STATUS and SET_POWER. -/
def refusedInDormant (kind : Nat) : Bool := kind != 0x01 && kind != 0x02 && kind != 0x11

/-- A row written as a command frame is taken under that frame's KIND and TAG, by an effect that moves neither the waiting
commands nor the clock; a well-formed one is refused in DORMANT by its KIND. -/
def IsTaken (c : Instr) : Prop :=
  ∀ p, Command.parts c = some p → ∃ awake act, (c.wf = true → awake = refusedInDormant p.1)
    ∧ (∀ x, Runs false x (act x).state) ∧ ∀ s, exec c s = .next (s.take p.1 p.2.1 awake act)

theorem IsTaken.of_take {c : Instr} {kind tag : Nat} {body : List Byte} {act : State → Answer}
    (parts : Command.parts c = some (kind, tag, body)) (runs : ∀ x, Runs false x (act x).state)
    (taken : ∀ s, exec c s = .next (s.take kind tag (refusedInDormant kind) act)) : IsTaken c := by
  intro p h
  obtain rfl := Option.some.inj (parts.symm.trans h)
  exact ⟨_, act, fun _ => rfl, runs, taken⟩

theorem IsTaken.of_takeSized {c : Instr} {kind tag : Nat} {body : List Byte} {fits : Bool} {act : State → Answer}
    (parts : Command.parts c = some (kind, tag, body)) (wf : c.wf = true → fits = true) (runs : ∀ x, Runs false x (act x).state)
    (taken : ∀ s, exec c s = .next (s.takeSized kind tag (refusedInDormant kind) fits act)) : IsTaken c := by
  intro p h
  obtain rfl := Option.some.inj (parts.symm.trans h)
  refine ⟨_, _, fun h => ?_, fun x => ?_, fun s => (taken s).trans (congrArg _ (takeSized_eq_take ..))⟩
  · rw [wf h, Bool.true_and]
  · cases fits
    · exact .refl x
    · exact runs x

theorem IsTaken.of_event {c : Instr} (event : Command.parts c = none) : IsTaken c :=
  fun _ h => nomatch event.symm.trans h

theorem isTaken : ∀ c, IsTaken c
  | .identify _ => .of_take rfl .refl fun _ => rfl
  | .getStatus _ ps => .of_takeSized rfl (by simp [Instr.wf]) (runs_getStatus · ps) fun _ => rfl
  | .readReports _ n l => .of_take rfl (runs_readReports · n l) fun _ => rfl
  | .setRoutes _ ps => .of_takeSized rfl (by simp [Instr.wf]; omega) (runs_setRoutes · ps) fun _ => rfl
  | .reset _ => .of_take rfl (fun _ => .of_same rfl rfl) fun _ => rfl
  | .setTime _ v => .of_take rfl (runs_setTime · v) fun _ => rfl
  | .setPower _ p => .of_take rfl (runs_setPower · p) fun _ => rfl
  | .setThresholds _ l c => .of_take rfl (runs_setThresholds · l c) fun _ => rfl
  | .saveSettings _ => .of_take rfl runs_saveSettings fun _ => rfl
  | .setCapture _ a => .of_take rfl (runs_setCapture · a) fun _ => rfl
  | .setSync _ _ => .of_take rfl (fun _ => .of_same rfl rfl) fun _ => rfl
  | .release _ a => .of_take rfl (runs_release · a) fun _ => rfl
  | .setShotBase _ n => .of_take rfl (runs_setShotBase · n) fun _ => rfl
  | .setAf _ a => .of_take rfl (runs_setAf · a) fun _ => rfl
  | .setLens _ a => .of_take rfl (runs_setLens · a) fun _ => rfl
  | .listShots _ _ _ => .of_take rfl .refl fun _ => rfl
  | .readShot _ n => .of_take rfl (runs_readShot · n) fun _ => rfl
  | .readThumb _ n o l => .of_take rfl (runs_readThumb · n o l) fun _ => rfl
  | .tagShot _ n u p r => .of_take rfl (runs_tagShot · n u p r) fun _ => rfl
  | .hold _ n k => .of_take rfl (runs_hold · n k) fun _ => rfl
  | .unhold _ n k => .of_take rfl (runs_unhold · n k) fun _ => rfl
  | .deleteShot _ n => .of_take rfl (runs_askDelete · n) fun _ => rfl
  | .readCardIndex _ _ _ => .of_take rfl .refl fun _ => rfl
  | .setLook _ sl a => .of_take rfl (runs_setLook · sl a) fun _ => rfl
  | .setCurve _ sl ps => .of_takeSized rfl (by simp +contextual [Instr.wf]) (runs_setCurve · sl ps) fun _ => rfl
  | .develop _ n l => .of_take rfl (runs_develop · n l) fun _ => rfl
  | .setCardMode _ m c => .of_take rfl (runs_setCardMode · m c) fun _ => rfl
  | .grantWindow _ sl m a l => .of_take rfl (runs_grantWindow · sl m a l) fun _ => rfl
  | .recall _ n k => .of_take rfl (runs_askRecall · n k) fun _ => rfl
  | .setTether _ a => .of_take rfl (runs_setTether · a) fun _ => rfl
  | .setSendRule _ i a => .of_take rfl (runs_setSendRule · i a) fun _ => rfl
  | .enqueue _ n k p d e => .of_take rfl (runs_enqueue · n k p d e) fun _ => rfl
  | .cancelItem _ m => .of_take rfl (runs_cancelItem · m) fun _ => rfl
  | .readQueue _ _ _ => .of_take rfl .refl fun _ => rfl
  | .answerPull _ p a r => .of_take rfl (runs_answerPull · p a r) fun _ => rfl
  | .rejoin _ => .of_take rfl (fun x => .of_inner (State.Inner.refl x).rejoinLink) fun _ => rfl
  | .chipSelectFall | .chipSelectRise | .lengthOversize _ | .frameComplete _ | .replyRead _ | .resetPendingTimeout _
  | .pinReset _ | .brownoutHold | .powerLoss | .supplyRecovered _ | .supplyReading _ | .wakeEnd | .settingsWriteEnd _
  | .warmupEnd | .liveFrame _ | .lineLevelChange .. | .debounceRecognized _ | .flashReadyChange _ | .flashWaitExpiry
  | .flashPulseStart | .flashPulseEnd | .frameOpportunity | .exposureEnd | .obRowsEnd _ | .readoutEnd ..
  | .lensMoving | .lensSettled _ | .lensAnswerTimeout | .lostTimerExpiry | .focusWaitExpiry | .inFocusAgeExpiry
  | .thumbPassEnd | .renderPassEnd | .cardInserted _ | .mountComplete .. | .mountFailed _ | .mountTimeout _
  | .cardRemoved _ | .extentWriteEnd .. | .extentReadEnd .. | .carrierUp | .carrierDown | .relayFrameBad _
  | .relayFrameDisregarded _ | .acceptReceived .. | .refuseReceived .. | .ackReceived .. | .nakReceived ..
  | .beaconReceived .. | .pullReceived .. | .beaconLoss | .offerTimeout | .ackTimeout | .portFree
  | .deadlineExpiry _ | .syncByte => .of_event rfl

/-- Settles O17: in DORMANT a taken command refused there by its KIND adds its STATE reply alone. -/
theorem dormantRefusesCommands : Obligations.DormantRefusesCommands := by
  intro c s p wf parts notIdentify notStatus notPower takes dormant
  obtain ⟨awake, act, refused, -, taken⟩ := isTaken c p parts
  have refuses : awake = true := by simp [refused wf, refusedInDormant, notIdentify, notStatus, notPower]
  rw [taken, refuses, take_of_dormant takes dormant]

end Sys2Proof.Machine.EveryRow
end

section
/-! PROOFS. The events of the opcode table, every row's outcome, and the brown-out hold (Chapters 9 and 10). -/

namespace Sys2Proof.Machine.EveryRow
open Sys2Proof LensDrive

/-! ### What an event may make of its state -/

/-- The rows that carry the clock to a moment: the ends of timers and the supply reading (R205; log entry 2). -/
def carriesClock : Instr → Bool
  | .resetPendingTimeout _ | .supplyReading _ | .wakeEnd | .settingsWriteEnd _ | .warmupEnd | .liveFrame _ | .debounceRecognized _
  | .flashWaitExpiry | .flashPulseStart | .flashPulseEnd | .frameOpportunity | .exposureEnd | .readoutEnd .. | .lensAnswerTimeout
  | .lostTimerExpiry | .focusWaitExpiry | .inFocusAgeExpiry | .thumbPassEnd | .renderPassEnd | .mountTimeout _ | .beaconLoss
  | .offerTimeout | .ackTimeout | .deadlineExpiry _ => true
  | _ => false

/-- The rows the brown-out hold does not freeze: the end of it, and the loss of power in it (R209). -/
def actsInHold : Instr → Bool
  | .supplyRecovered _ | .powerLoss => true
  | _ => false

/-- `t` is what a row may make of `s`: it moves the clock only as it may, and where the hold freezes it, the pins alone. -/
structure Reacts (carries acts : Bool) (s t : State) : Prop where
  runs : Runs carries s t
  frozen : acts = false → s.held = true → ∃ q, t = s.setPins q

theorem Reacts.stays {carries acts : Bool} (s : State) : Reacts carries acts s s := ⟨.refl s, fun _ _ => ⟨s.pins, rfl⟩⟩

theorem runs_event {carries : Bool} {act : State → State} (h : ∀ x, Runs carries x (act x)) (s : State) : Runs carries s (s.event act) := by
  unfold State.event; split
  · exact .refl s
  · exact (h s).settle

theorem event_of_held {s : State} (held : s.held = true) (act : State → State) : s.event act = s := if_pos held

/-- An event that takes a level of the pins first (log entry 29). -/
theorem Reacts.pinEvent {carries acts : Bool} {act : State → State} (h : ∀ x, Runs carries x (act x)) (s : State) (q : Pins) :
    Reacts carries acts s ((s.setPins q).event act) :=
  ⟨Runs.trans (s := s.setPins q) (.of_same rfl rfl) (runs_event h _), fun _ held => ⟨q, event_of_held (s := s.setPins q) held act⟩⟩

theorem Reacts.event {carries acts : Bool} {act : State → State} (h : ∀ x, Runs carries x (act x)) (s : State) :
    Reacts carries acts s (s.event act) := Reacts.pinEvent h s s.pins

theorem Reacts.timer {acts : Bool} {act : State → State} (h : ∀ x, Runs true x (act x)) (s : State) (due : Option Nat) :
    Reacts true acts s (s.timer due act) :=
  match due with
  | none => .stays s
  | some d => .event (fun x => (runs_carryTo x d).trans (h _)) s

theorem Reacts.timeTimer {acts : Bool} {act : State → State} (h : ∀ x, Runs true x (act x)) (s : State) (due : Option Nat) :
    Reacts true acts s (s.timeTimer due act) :=
  match due with
  | none => .stays s
  | some t => .event (fun x => (runs_carryToTime x t).trans (h _)) s

/-- Every state has an outcome of the row, and it is one the row may make of it. -/
def Responds (c : Instr) : Prop := ∀ s, ∃ t, exec c s = .next t ∧ Reacts (carriesClock c) (actsInHold c) s t

theorem Responds.of_event {c : Instr} {act : State → State} (means : ∀ s, exec c s = .next (s.event act))
    (h : ∀ x : State, x.Inner (act x)) : Responds c := fun s => ⟨_, means s, .event (fun x => .of_inner (h x)) s⟩

theorem Responds.of_timer {c : Instr} {due : State → Option Nat} {act : State → State} (carries : carriesClock c = true)
    (means : ∀ s, exec c s = .next (s.timer (due s) act)) (h : ∀ x : State, x.Inner (act x)) : Responds c :=
  fun s => ⟨_, means s, carries ▸ .timer (fun x => .of_inner (h x)) s _⟩

theorem Responds.of_timeTimer {c : Instr} {due : State → Option Nat} {act : State → State} (carries : carriesClock c = true)
    (means : ∀ s, exec c s = .next (s.timeTimer (due s) act)) (h : ∀ x, Runs true x (act x)) : Responds c :=
  fun s => ⟨_, means s, carries ▸ .timeTimer h s _⟩

/-! ### The events of the command link and of the Supervisor -/

theorem responds_chipSelectFall : Responds .chipSelectFall := by
  intro s
  refine ⟨_, rfl, ?_⟩
  split
  · exact .pinEvent (act := fun x => x.setLink x.link.open) (fun _ => .of_same rfl rfl) s _
  · exact .stays s

theorem responds_chipSelectRise : Responds .chipSelectRise := by
  intro s
  refine ⟨_, rfl, ?_⟩
  split
  · exact .stays s
  · exact .pinEvent (act := fun x => x.setLink x.link.close) (fun _ => .of_same rfl rfl) s _

/-- A link event that changes the link's own state. -/
theorem Responds.of_link {c : Instr} {f : Link → Link} (means : ∀ s, exec c s = .next (s.event fun x => x.setLink (f x.link))) :
    Responds c := fun s => ⟨_, means s, .event (act := fun x => x.setLink (f x.link)) (fun _ => .of_same rfl rfl) s⟩

theorem runs_readReply (s : State) (reading : Nat) : Runs false s (s.readReply reading) := by
  have popped : Runs false s (s.setLink s.link.popReply) := .of_same rfl rfl
  unfold State.readReply; dsimp only
  split
  · split
    · exact popped.trans (runs_doReset _ _ _)
    · exact popped
  · exact .refl s

theorem responds_replyRead (reading : Nat) : Responds (.replyRead reading) :=
  fun s => ⟨_, rfl, .event (runs_readReply · reading) s⟩

/-- A frame that completes hands its command on, and no event (R221). -/
theorem runCommand_eq (c : Instr) (s : State) : runCommand c s = if (Command.parts c).isSome then exec c s else .next s := by
  cases c <;> rfl

theorem runs_runCommand (c : Instr) (s : State) : ∃ t, runCommand c s = .next t ∧ Runs false s t := by
  rw [runCommand_eq]
  split
  next command =>
    obtain ⟨p, parts⟩ := Option.isSome_iff_exists.mp command
    obtain ⟨awake, act, -, runs, taken⟩ := isTaken c p parts
    exact ⟨_, taken s, runs_take runs s _ _ _⟩
  next => exact ⟨s, rfl, .refl s⟩

theorem runs_takeFrame (s : State) (kind tag : Nat) (body : List Byte) : ∃ t, s.takeFrame kind tag body = .next t ∧ Runs false s t := by
  have discarded : Runs false s s.discardCommand := .of_same rfl rfl
  unfold State.takeFrame
  split
  · exact runs_runCommand _ s
  · refine ⟨_, rfl, ?_⟩
    split
    · exact discarded
    · exact .of_same rfl rfl
  · refine ⟨_, rfl, ?_⟩
    split
    · exact discarded
    · exact .of_same rfl rfl

theorem runs_completeFrame (s : State) (bytes : List Byte) : ∃ t, s.completeFrame bytes = .next t ∧ Runs false s t := by
  have hunts : Runs false s (s.setLink { s.link with assembler := .hunt }) := .of_same rfl rfl
  unfold State.completeFrame; dsimp only
  split
  · obtain ⟨t, taken, runs⟩ := runs_takeFrame (s.setLink { s.link with assembler := .hunt }) (frameParts bytes).1 (frameParts bytes).2.1
      (frameParts bytes).2.2
    exact ⟨t, taken, hunts.trans runs⟩
  · exact ⟨_, rfl, hunts.trans (.of_same rfl rfl)⟩

theorem responds_frameComplete (bytes : List Byte) : Responds (.frameComplete bytes) := by
  intro s
  show ∃ t, execFrameComplete bytes s = .next t ∧ Reacts false false s t
  unfold execFrameComplete
  split
  next completes =>
    obtain ⟨t, done, runs⟩ := runs_completeFrame s bytes
    exact ⟨t, done, runs, fun _ held => by simp [held] at completes⟩
  next => exact ⟨s, rfl, .stays s⟩

theorem responds_resetPendingTimeout (reading : Nat) : Responds (.resetPendingTimeout reading) :=
  fun s => ⟨_, rfl, .timer (fun x => have ⟨pending, elapsed⟩ := runs_doReset x .command reading; .of_same pending elapsed) s _⟩

theorem responds_pinReset (reading : Nat) : Responds (.pinReset reading) :=
  fun s => ⟨_, rfl, .event (runs_doReset · .pin reading) s⟩

theorem responds_brownoutHold : Responds .brownoutHold := by
  intro s
  refine ⟨_, rfl, ?_⟩
  split
  next => exact .stays s
  next running => exact ⟨.of_same rfl rfl, fun _ held => absurd held running⟩

theorem runs_endWrite {carries : Bool} (x : State) (passes : Bool) : Runs carries x (x.endWrite passes) :=
  Runs.inner (s := x.setSup { x.sup with store := x.sup.store.written passes }) (.of_same rfl rfl) ((State.Inner.refl _).raise _ _)

theorem responds_settingsWriteEnd (passes : Bool) : Responds (.settingsWriteEnd passes) :=
  fun s => ⟨_, rfl, .timer (runs_endWrite · passes) s _⟩

theorem runs_ageOut (x : State) : Runs true x x.ageOut := by
  unfold State.ageOut; split
  · exact .refl x
  · exact runs_carryToTime x _

/-! ### The rows the hold does not freeze (R209) -/

theorem runs_recover (s : State) (reading : Nat) : Runs false s (s.recover reading) := by
  unfold State.recover; split
  · exact .refl s
  · exact (runs_doReset _ _ _).settle

theorem responds_supplyRecovered (reading : Nat) : Responds (.supplyRecovered reading) :=
  fun s => ⟨_, rfl, runs_recover s reading, nofun⟩

theorem responds_powerLoss : Responds .powerLoss := fun _ => ⟨_, rfl, .of_same rfl rfl, nofun⟩

/-! ### Every row -/

theorem responds_of_command {c : Instr} {p : Nat × Nat × List Byte} (parts : Command.parts c = some p) (quiet : carriesClock c = false) :
    Responds c := by
  obtain ⟨awake, act, -, runs, taken⟩ := isTaken c p parts
  exact fun s => ⟨_, taken s, quiet ▸ runs_take runs s _ _ _, fun _ held => ⟨s.pins, take_of_held held _ _ _ _⟩⟩

/-- Every state has an outcome of every row, and one the row may make of it. -/
theorem responds : ∀ c : Instr, Responds c
  | .identify .. | .getStatus .. | .readReports .. | .setRoutes .. | .reset .. | .setTime ..
  | .setPower .. | .setThresholds .. | .saveSettings .. | .setCapture .. | .setSync ..
  | .release .. | .setShotBase .. | .setAf .. | .setLens .. | .listShots .. | .readShot ..
  | .readThumb .. | .tagShot .. | .hold .. | .unhold .. | .deleteShot .. | .readCardIndex ..
  | .setLook .. | .setCurve .. | .develop .. | .setCardMode .. | .grantWindow .. | .recall ..
  | .setTether .. | .setSendRule .. | .enqueue .. | .cancelItem .. | .readQueue ..
  | .answerPull .. | .rejoin .. => responds_of_command rfl rfl
  | .chipSelectFall => responds_chipSelectFall
  | .chipSelectRise => responds_chipSelectRise
  | .lengthOversize length => .of_link (f := (·.oversize length)) fun _ => rfl
  | .syncByte => .of_link (f := Link.sync) fun _ => rfl
  | .frameComplete bytes => responds_frameComplete bytes
  | .replyRead reading => responds_replyRead reading
  | .resetPendingTimeout reading => responds_resetPendingTimeout reading
  | .pinReset reading => responds_pinReset reading
  | .brownoutHold => responds_brownoutHold
  | .powerLoss => responds_powerLoss
  | .supplyRecovered reading => responds_supplyRecovered reading
  | .supplyReading mv => .of_timer rfl (fun _ => rfl) fun x => (State.Inner.refl x).takeReading mv
  | .wakeEnd => .of_timer rfl (fun _ => rfl) fun x => (State.Inner.refl x).wakeOver
  | .settingsWriteEnd passes => responds_settingsWriteEnd passes
  | .warmupEnd => .of_timer rfl (fun _ => rfl) fun x => (State.Inner.refl x).sensorReady
  | .liveFrame lines => .of_timer rfl (fun _ => rfl) fun x => (State.Inner.refl x).liveFrame lines
  | .lineLevelChange l high => fun s => ⟨_, rfl, .pinEvent (fun x => .of_inner ((State.Inner.refl x).lineLevel l high)) s _⟩
  | .debounceRecognized l => .of_timer rfl (fun _ => rfl) fun x => (State.Inner.refl x).recognize l
  | .flashReadyChange _ => fun s => ⟨_, rfl, .pinEvent (fun x => .of_inner ((State.Inner.refl x).notify .evaluate)) s _⟩
  | .flashWaitExpiry => .of_timer rfl (fun _ => rfl) fun x => (State.Inner.refl x).expireFlashWait
  | .flashPulseStart => .of_timer rfl (fun _ => rfl) fun x => (State.Inner.refl x).setCap _
  | .flashPulseEnd => .of_timer rfl (fun _ => rfl) fun x => (State.Inner.refl x).setCap _
  | .frameOpportunity => .of_timer rfl (fun _ => rfl) fun x => (State.Inner.refl x).reachOpportunity
  | .exposureEnd => .of_timer rfl (fun _ => rfl) fun x => (State.Inner.refl x).startReadout
  | .obRowsEnd samples => .of_event (fun _ => rfl) fun x => by
      split
      · exact (State.Inner.refl x).measureBlack samples
      · exact .refl x
  | .readoutEnd quads lines => .of_timer rfl (fun _ => rfl) fun x => (State.Inner.refl x).readoutOver quads lines
  | .lensMoving => .of_event (fun _ => rfl) fun x => (State.Inner.refl x).lensMoves
  | .lensSettled position => .of_event (fun _ => rfl) fun x => (State.Inner.refl x).lensSettles position
  | .lensAnswerTimeout => .of_timer rfl (fun _ => rfl) fun x => (State.Inner.refl x).lensTimeout
  | .lostTimerExpiry => .of_timeTimer rfl (fun _ => rfl) fun x => .of_inner (State.Inner.refl x).loseSubject
  | .focusWaitExpiry => .of_timer rfl (fun _ => rfl) fun x => (State.Inner.refl x).expireFocusWait
  | .inFocusAgeExpiry => .of_timeTimer rfl (fun _ => rfl) runs_ageOut
  | .thumbPassEnd => .of_timer rfl (fun _ => rfl) fun x => (State.Inner.refl x).passOver
  | .renderPassEnd => .of_timer rfl (fun _ => rfl) fun x => (State.Inner.refl x).passOver
  | .cardInserted sl => .of_event (fun _ => rfl) fun x => (State.Inner.refl x).insertCard sl
  | .mountComplete sl capacity protect => .of_event (fun _ => rfl) fun x => (State.Inner.refl x).mountCard sl capacity protect
  | .mountFailed sl => .of_event (fun _ => rfl) fun x => (State.Inner.refl x).failMount sl
  | .mountTimeout sl => .of_timer rfl (fun _ => rfl) fun x => (State.Inner.refl x).failMount sl
  | .cardRemoved sl => .of_event (fun _ => rfl) fun x => (State.Inner.refl x).removeCard sl
  | .extentWriteEnd sl success => .of_event (fun _ => rfl) fun x => (State.Inner.refl x).extentWritten sl success
  | .extentReadEnd sl success data => .of_event (fun _ => rfl) fun x => (State.Inner.refl x).extentRead sl success data
  | .carrierUp => .of_event (fun _ => rfl) fun x => (State.Inner.refl x).carrierUp
  | .carrierDown => .of_event (fun _ => rfl) fun x => (State.Inner.refl x).carrierDown
  | .relayFrameBad frame => .of_event (fun _ => rfl) fun x => (State.Inner.refl x).receiveFrame frame
  | .relayFrameDisregarded frame => .of_event (fun _ => rfl) fun x => (State.Inner.refl x).receiveFrame frame
  | .acceptReceived id start credit => .of_event (fun _ => rfl) fun x => (State.Inner.refl x).receive (.accept id start credit)
  | .refuseReceived id reason => .of_event (fun _ => rfl) fun x => (State.Inner.refl x).receive (.refuse id reason)
  | .ackReceived id index credit => .of_event (fun _ => rfl) fun x => (State.Inner.refl x).receive (.ack id index credit)
  | .nakReceived id index => .of_event (fun _ => rfl) fun x => (State.Inner.refl x).receive (.nak id index)
  | .beaconReceived counter status => .of_event (fun _ => rfl) fun x => (State.Inner.refl x).receive (.beacon counter status)
  | .pullReceived id k n priority => .of_event (fun _ => rfl) fun x => (State.Inner.refl x).receive (.pull id k n priority)
  | .beaconLoss => .of_timer rfl (fun _ => rfl) fun x => (State.Inner.refl x).loseBeacons
  | .offerTimeout => .of_timer rfl (fun _ => rfl) fun x => (State.Inner.refl x).offerAgain
  | .ackTimeout => .of_timer rfl (fun _ => rfl) fun x => (State.Inner.refl x).goBack
  | .portFree => .of_event (fun _ => rfl) fun x => (State.Inner.refl x).portFree
  | .deadlineExpiry m => .of_timeTimer rfl (fun _ => rfl) fun x => .of_inner ((State.Inner.refl x).expireItem m)

/-! ### The statements about every row -/

/-- Settles O7: every row has an outcome, and none touches the waiting commands. -/
theorem everyCommandAnswersANextState : Obligations.EveryCommandAnswersANextState := fun c s =>
  have ⟨t, done, reacts⟩ := responds c s
  ⟨t, done, reacts.runs.pending⟩

theorem exec_clock {c : Instr} {s t : State} (done : exec c s = .next t) :
    clockMoves (carriesClock c) s.sup.elapsed t.sup.elapsed := by
  obtain ⟨u, done', reacts⟩ := responds c s
  obtain rfl := Host.Outcome.next.inj (done.symm.trans done')
  exact reacts.runs.clock

theorem le_of_clockMoves {carries : Bool} {before after : Nat} (h : clockMoves carries before after) : before ≤ after :=
  match carries, h with
  | true, le => le
  | false, eq => Nat.le_of_eq eq.symm

/-- A tick raises the count by one, and in the hold by none. -/
theorem tick_elapsed (s : State) : s.sup.elapsed ≤ s.tick.sup.elapsed := by
  unfold State.tick; split
  · exact Nat.le_refl _
  · exact Nat.le_add_right _ 1

/-- Settles O12: a step is a tick or a row, and only a row that carries the clock moves it. -/
theorem elapsedTimeNeverFalls : Obligations.ElapsedTimeNeverFalls := by
  refine ⟨?step, ?command, ?row⟩
  case step =>
    intro s t done
    unfold step at done
    split at done
    next => obtain rfl := Host.Outcome.next.inj done; exact tick_elapsed s
    next c cs _ => exact le_of_clockMoves (exec_clock (s := s.setPending cs) done)
  case command =>
    intro c s t command done
    obtain ⟨p, parts⟩ := Option.isSome_iff_exists.mp command
    obtain ⟨awake, act, -, runs, taken⟩ := isTaken c p parts
    obtain rfl := Host.Outcome.next.inj ((taken s).symm.trans done)
    exact (runs_take runs s _ _ _).clock
  case row =>
    intro c s t done
    have moves := exec_clock done
    cases c <;> exact moves

/-- Settles O2: a tick on an empty queue. -/
theorem idleStepPassesAMicrosecond : Obligations.IdleStepPassesAMicrosecond := by
  refine ⟨fun s idle running inRange => ?runs, fun s idle held => ?held⟩
  case runs =>
    have passes : timeAfter s.sup.timeBase 1 = s.sup.timeBase + 1 := if_pos inRange
    simp only [step, idle, State.tick, State.held, running, State.elapse, passes, State.setSup]; rfl
  case held =>
    have isHeld : s.held = true := Option.isSome_iff_ne_none.mpr held
    simp only [step, idle, State.tick, isHeld, if_true]

theorem actsInHold_eq_false {c : Instr} (notRecovered : ∀ reading, c ≠ .supplyRecovered reading) (notLoss : c ≠ .powerLoss) :
    actsInHold c = false := by
  unfold actsInHold; split
  next reading => exact absurd rfl (notRecovered reading)
  next => exact absurd rfl notLoss
  next => rfl

/-- Settles O19: in the hold a row takes the levels of the pins at most, the output lines are low, and the two rows of a
falling supply enter it. -/
theorem holdFreezesAllButThePins : Obligations.HoldFreezesAllButThePins := by
  refine ⟨?frozen, ?lines, ?brownout, fun s => rfl⟩
  case frozen =>
    intro c s held notRecovered notLoss
    obtain ⟨t, done, reacts⟩ := responds c s
    obtain ⟨q, rfl⟩ := reacts.frozen (actsInHold_eq_false notRecovered notLoss) (Option.isSome_iff_ne_none.mpr held)
    exact ⟨q, done⟩
  case lines =>
    intro s l held
    have isHeld : s.held = true := Option.isSome_iff_ne_none.mpr held
    simp [State.rply, State.attn, State.flashSync, isHeld]
  case brownout =>
    intro s running
    have notHeld : s.held = false := by simp [State.held, running]
    exact congrArg Host.Outcome.next (if_neg (by simp [notHeld]))

end Sys2Proof.Machine.EveryRow
end

section
/-! PROOFS. The time base set, a RESET asked for and begun by the reading of its reply, and the settings store's writes
(Chapters 9 and 10). -/

namespace Sys2Proof.Machine.StoredSettings
open Sys2Proof LensDrive PhaseMeasurement

/-! ### SET_TIME (R204, R205) -/

/-- No item's deadline has passed. -/
def NonePassed (s : State) : Prop := ∀ x ∈ s.tet.items, ∀ d, x.deadline = some d → s.sup.timeBase < d

theorem expireItem_of_nonePassed {s : State} (early : NonePassed s) (m : Nat) : s.expireItem m = s := by
  unfold State.expireItem
  split
  next => rfl
  next x found =>
    split
    next => rfl
    next d deadline => exact if_pos (early x (List.mem_of_find?_eq_some found) d deadline)

theorem expirePassed_of_nonePassed {s : State} (early : NonePassed s) : s.expirePassed = s := by
  unfold State.expirePassed
  generalize s.tet.items.map (·.number) = ms
  induction ms with
  | nil => rfl
  | cons m ms ih => rw [List.foldl_cons, expireItem_of_nonePassed early, ih]

theorem loseSubject_of_noTimer {s : State} (noTimer : s.foc.lostTime = none) : s.loseSubject = s := by
  simp only [State.loseSubject, noTimer]

/-- With no lost timer and no deadline passed, setting the time base does nothing else. -/
theorem setTimeBase_of_nonePassed {s : State} {time : Nat} (noTimer : s.foc.lostTime = none)
    (early : ∀ x ∈ s.tet.items, ∀ d, x.deadline = some d → time < d) :
    s.setTimeBase time = s.setSup { s.sup with timeBase := time } := by
  have noTimer' : (s.setSup { s.sup with timeBase := time }).foc.lostTime = none := noTimer
  have early' : NonePassed (s.setSup { s.sup with timeBase := time }) := early
  rw [State.setTimeBase, loseSubject_of_noTimer noTimer', expirePassed_of_nonePassed early']

theorem setTime_of_late {s : State} {time : Nat} (late : ∀ h ∈ s.heldTimes, h ≤ time) :
    s.setTime time = { state := s.setTimeBase time, status := .ok, rest := le 8 s.sup.timeBase ++ le 8 time } :=
  if_neg (by simpa using late)

theorem setTime_of_early {s : State} {time h : Nat} (kept : h ∈ s.heldTimes) (early : time < h) :
    s.setTime time = s.refuse .state :=
  if_pos (by simpa using ⟨h, kept, early⟩)

theorem exec_setTime {s : State} (h : s.Awake) (tag time : Nat) :
    exec (.setTime tag time) s
      = .next ((s.setTime time).state.settle.pushReply 0x90 tag (s.setTime time).status (s.setTime time).rest) :=
  congrArg Host.Outcome.next (take_of_awake h 0x10 tag true fun x => x.setTime time)

/-- Settles O32: SET_TIME at or above every kept start time, then below one. -/
theorem setTimeMovesTheTimeBase : Obligations.SetTimeMovesTheTimeBase := by
  refine ⟨fun s tag time awake late noTimer early => ?moves, fun s tag time h awake steady kept early => ?refused⟩
  case moves => rw [exec_setTime awake, setTime_of_late late, setTimeBase_of_nonePassed noTimer early]; rfl
  case refused => rw [exec_setTime awake, setTime_of_early kept early, State.refuse, steadyStepEndChangesNothing s steady]

/-! ### SAVE_SETTINGS and the end of its write (R216, R217) -/

theorem exec_saveSettings {s : State} (h : s.Awake) (tag : Nat) :
    exec (.saveSettings tag) s
      = .next (s.saveSettings.state.settle.pushReply 0x93 tag s.saveSettings.status s.saveSettings.rest) :=
  congrArg Host.Outcome.next (take_of_awake h 0x13 tag true State.saveSettings)

theorem saveSettings_of_quiet {s : State} (quiet : s.sup.store.mark ≠ .writing) :
    s.saveSettings = { state := s.startWrite, status := .ok } := if_neg quiet

theorem saveSettings_of_writing {s : State} (writing : s.sup.store.mark = .writing) : s.saveSettings = s.refuse .busy := if_pos writing

theorem carryTo_store (s : State) (d : Nat) : (s.carryTo d).sup.store = s.sup.store := by
  unfold State.carryTo; split <;> rfl

theorem exec_settingsWriteEnd {s : State} {due : Nat} (held : s.held = false) (writes : s.sup.store.writeDue = some due) (passes : Bool) :
    exec (.settingsWriteEnd passes) s = .next ((s.carryTo due).endWrite passes).settle :=
  congrArg Host.Outcome.next (timer_of_due held writes fun x => x.endWrite passes)

/-- A write that reads back as written leaves its copy as the image, with its CRC-32. -/
theorem written_of_passes {st : Store} {g : Settings} (copied : st.copy = some g) :
    st.written true = { mark := .valid, image := some g, crc := crc32 (Config.imageBytes g), copy := none, writeDue := none } := by
  simp only [Store.written, if_true, copied]; rfl

/-! ### RESET, and the reset its reply's reading begins (R206, R207, R222, R231) -/

theorem exec_reset {s : State} (h : s.Awake) (tag : Nat) :
    exec (.reset tag) s
      = .next ((s.setLink { s.link with resetDue := some (s.sup.elapsed + 100000) }).settle.pushReply 0x85 tag .accepted []) :=
  congrArg Host.Outcome.next (take_of_awake h 0x05 tag true State.askReset)

/-- Settles O31: RESET, then SAVE_SETTINGS by whether a write runs, then the write's end by what is read back. -/
theorem resetAndSaveAreAccepted : Obligations.ResetAndSaveAreAccepted := by
  refine ⟨fun s tag awake => exec_reset awake tag, fun s tag awake quiet => ?starts, fun s tag awake steady writing => ?busy,
    fun s due g held writes copied => ?done, fun s due held writes => ?fails⟩
  case starts => rw [exec_saveSettings awake, saveSettings_of_quiet quiet]; rfl
  case busy => rw [exec_saveSettings awake, saveSettings_of_writing writing, State.refuse, steadyStepEndChangesNothing s steady]
  case done =>
    have copied' : (s.carryTo due).sup.store.copy = some g := by rw [carryTo_store, copied]
    rw [exec_settingsWriteEnd held writes, State.endWrite, written_of_passes copied']; rfl
  case fails =>
    rw [exec_settingsWriteEnd held writes, State.endWrite, carryTo_store]; rfl

theorem exec_replyRead {s : State} (held : s.held = false) (reading : Nat) :
    exec (.replyRead reading) s = .next (s.readReply reading).settle :=
  congrArg Host.Outcome.next (event_of_running held fun x => x.readReply reading)

theorem readReply_of_noReset {s : State} (shifting : s.link.shifting = true) (noReset : s.link.resetDue = none) (reading : Nat) :
    s.readReply reading = s.setLink s.link.popReply := by
  simp [State.readReply, shifting, Link.popReply, noReset]

/-- The reading of the last reply queued begins a pending reset. -/
theorem readReply_of_reset {s : State} (shifting : s.link.shifting = true) (pending : s.link.resetDue ≠ none)
    (last : s.link.replies.length = 1) (reading : Nat) : s.readReply reading = s.doReset .command reading := by
  have none : s.link.replies.drop 1 = [] := List.drop_eq_nil_of_le (Nat.le_of_eq last)
  simp only [State.readReply, shifting, Link.popReply, State.setLink_link, Option.isSome_iff_ne_none.mpr pending, none,
    List.isEmpty_nil, Bool.and_self, if_true]
  rfl

/-- A reset leaves no work and no focus behind. -/
theorem steady_afterReset (s : State) (cause : ResetCause) (reading : Nat) : (s.afterReset cause reading).Steady := ⟨rfl, rfl⟩

theorem steady_raise_afterReset (s : State) (cause : ResetCause) (reading : Nat) (k : ReportKind) (fs : List Byte) :
    ((s.afterReset cause reading).raise k fs).Steady := by
  unfold State.raise; split <;> exact ⟨rfl, rfl⟩

theorem firstLevel_eq_normal_iff (low critical reading : Nat) : firstLevel low critical reading = .normal ↔ low ≤ reading := by
  unfold firstLevel
  split
  next enough => exact iff_of_true rfl enough
  next short => split <;> exact iff_of_false nofun short

theorem doReset_of_normal {s : State} {cause : ResetCause} {reading : Nat} (enough : s.sup.store.atReset.settings.low ≤ reading) :
    s.doReset cause reading = s.afterReset cause reading := if_pos ((firstLevel_eq_normal_iff _ _ _).mpr enough)

theorem doReset_of_low {s : State} {cause : ResetCause} {reading : Nat} (short : reading < s.sup.store.atReset.settings.low) :
    s.doReset cause reading
      = (s.afterReset cause reading).raise .powerLevel (powerFields (s.afterReset cause reading) none) :=
  if_neg fun normal => Nat.not_le.mpr short ((firstLevel_eq_normal_iff _ _ _).mp normal)

/-! ### The bytes shifted out (R222, R233) -/

theorem shiftOut_of_shifted {s : State} {r : Reply} {rs : List Reply} (held : s.held = false) (shifting : s.link.shifting = true)
    (queued : s.link.replies = r :: rs) (i : Nat) : s.shiftOut i = r.frame.getD i 0 := by
  simp [State.shiftOut, State.shiftedReply, held, shifting, queued]

theorem shiftOut_of_none {s : State} (idle : s.link.shifting = false ∨ s.link.replies = []) (i : Nat) : s.shiftOut i = 0 := by
  have none : s.shiftedReply = none := by
    rcases idle with idle | idle <;> simp [State.shiftedReply, idle]
  simp [State.shiftOut, none]

theorem frame_length (r : Reply) : r.frame.length = r.body.length + 7 := by
  simp only [Reply.frame, frameBytes, List.length_cons, List.length_append, Laws.le_length]; omega

/-- Settles O21: the reading of a reply by what is pending, then the bytes of the oldest reply's frame. -/
theorem repliesAreReadOldestFirst : Obligations.RepliesAreReadOldestFirst := by
  refine ⟨fun s reading held shifting noReset => ?leaves, fun s reading held shifting pending last enough => ?resets,
    fun s reading held shifting pending last short => ?resetsLow, fun s r rs held shifting queued => ?bytes,
    fun s i idle => shiftOut_of_none idle i⟩
  case leaves => rw [exec_replyRead held, readReply_of_noReset shifting noReset]; rfl
  case resets =>
    rw [exec_replyRead held, readReply_of_reset shifting pending last, doReset_of_normal enough,
      steadyStepEndChangesNothing _ (steady_afterReset ..)]
  case resetsLow =>
    rw [exec_replyRead held, readReply_of_reset shifting pending last, doReset_of_low short,
      steadyStepEndChangesNothing _ (steady_raise_afterReset ..)]
  case bytes =>
    show r.frame.length = r.body.length + 7 ∧ (∀ i, i < r.frame.length → r.frame[i]? = some (s.shiftOut i))
      ∧ ∀ i, r.frame.length ≤ i → s.shiftOut i = 0
    refine ⟨frame_length r, fun i inside => ?_, fun i outside => ?_⟩
    · rw [shiftOut_of_shifted held shifting queued, List.getD_eq_getElem?_getD, List.getElem?_eq_getElem inside, Option.getD_some]
    · rw [shiftOut_of_shifted held shifting queued, List.getD_eq_getElem?_getD, List.getElem?_eq_none outside, Option.getD_none]

end Sys2Proof.Machine.StoredSettings
end

section
/-! PROOFS. What leaves the Supervisor and the DRAM's power alone: the work a change of the power state or of the level asks
of the other blocks (Chapters 2, 5, 6, 8 and 9). -/

namespace Sys2Proof.Machine
open Sys2Proof

/-- `s` has the Supervisor of `r`, and its DRAM is powered as in `r`. -/
structure State.SameSupply (r s : State) : Prop where
  sup : s.sup = r.sup
  dramOn : s.sbm.dramOn = r.sbm.dramOn

namespace State.SameSupply

theorem refl (s : State) : s.SameSupply s := ⟨rfl, rfl⟩

theorem foldl {α : Type} {r s : State} (l : List α) (f : State → α → State) (h : r.SameSupply s)
    (hf : ∀ t x, r.SameSupply t → r.SameSupply (f t x)) : r.SameSupply (l.foldl f s) := by
  induction l generalizing s with
  | nil => exact h
  | cons x l ih => exact ih (hf s x h)

section
variable {r s : State} (h : r.SameSupply s)
include h

/-- One more function that leaves both alone. -/
theorem next {t : State} (sup : t.sup = s.sup) (dramOn : t.sbm.dramOn = s.sbm.dramOn) : r.SameSupply t :=
  ⟨sup.trans h.sup, dramOn.trans h.dramOn⟩

/-- What a step's end leaves alone holds both. -/
theorem of_keeps {t : State} (keeps : s.Keeps t) : r.SameSupply t := h.next (congrArg Kept.sup keeps) (congrArg Kept.dramOn keeps)

theorem setCap (c : Cap) : r.SameSupply (s.setCap c) := h.next rfl rfl
theorem setFoc (f : Foc) : r.SameSupply (s.setFoc f) := h.next rfl rfl
theorem setDev (d : Dev) : r.SameSupply (s.setDev d) := h.next rfl rfl
theorem setTet (t : Tet) : r.SameSupply (s.setTet t) := h.next rfl rfl
theorem setSlot (sl : Slot) (c : CardSlot) : r.SameSupply (s.setSlot sl c) := h.next rfl rfl

theorem notify (n : Notice) : r.SameSupply (s.notify n) := h.of_keeps ((Keeps.refl s).notify n)
theorem raise (k : ReportKind) (fs : List Byte) : r.SameSupply (s.raise k fs) := h.of_keeps ((Keeps.refl s).raise k fs)
theorem mapShot (i : Nat) (f : Shot → Shot) : r.SameSupply (s.mapShot i f) := h.of_keeps ((Keeps.refl s).mapShot i f)
theorem mapObj (i : Nat) (k : Pict) (f : Obj → Obj) : r.SameSupply (s.mapObj i k f) := h.of_keeps ((Keeps.refl s).mapObj i k f)
theorem releaseHold (i : Nat) (k : Pict) (hd : Hold) : r.SameSupply (s.releaseHold i k hd) :=
  h.of_keeps ((Keeps.refl s).releaseHold i k hd)

/-! ### Write jobs (R137, R144, R145) -/

theorem tryStart (sl : Slot) : r.SameSupply (s.tryStart sl) := by
  unfold State.tryStart
  split
  next => exact h
  next =>
    split
    next => exact h
    next j js _ =>
      dsimp only
      generalize (if (s.slot sl).remaining < j.blocks then (s.slot sl).takePending else s.slot sl) = c
      split
      next => exact (h.setSlot _ _).mapShot _ _
      next => exact (h.setSlot _ _).raise _ _

theorem joinQueue (sl : Slot) (j : WriteJob) (try' : State → State) (ht : ∀ t, r.SameSupply t → r.SameSupply (try' t)) :
    r.SameSupply (s.joinQueue sl j try') := by
  have joined := h.setSlot sl { s.slot sl with queue := (s.slot sl).queue ++ [j] }
  unfold State.joinQueue; dsimp only
  split
  next => exact ht _ joined
  next => exact joined

theorem moveJob (left : CardStatus) (j : WriteJob) : r.SameSupply (s.moveJob left j) := by
  have moved := (h.mapShot j.entry fun sh => { sh with cards := sh.cards.put j.kind .a left }).mapObj j.entry j.kind
    fun o => { o with holds := (o.holds.set .cardA false).set .cardB true }
  unfold State.moveJob; dsimp only
  split
  next => exact moved
  next => exact (moved.mapShot _ _).joinQueue _ _ _ fun _ ht => ht.tryStart _

theorem moveQueue : r.SameSupply s.moveQueue := foldl _ _ (h.setSlot _ _) fun _ _ ht => ht.moveJob _ _

theorem tryHead (sl : Slot) : r.SameSupply (s.tryHead sl) := by
  unfold State.tryHead; dsimp only
  split
  next => exact (h.tryStart sl).moveQueue
  next => exact h.tryStart sl

theorem enqueueJob (i : Nat) (k : Pict) (sl : Slot) : r.SameSupply (s.enqueueJob i k sl) := by
  unfold State.enqueueJob
  split
  next => exact ((h.mapShot _ _).mapObj _ _ _).joinQueue _ _ _ fun _ ht => ht.tryHead _
  next => exact h

theorem cardJobs (i : Nat) (k : Pict) : r.SameSupply (s.cardJobs i k) := by
  unfold State.cardJobs
  split
  next => exact h.mapObj _ _ _
  next => exact foldl _ _ h fun _ _ ht => ht.enqueueJob _ _ _

/-! ### Items (R182, R186, R193) -/

theorem notifyExpired (m : Nat) (deadline : Option Nat) : r.SameSupply (s.notifyExpired m deadline) := by
  unfold State.notifyExpired; split
  · exact h.notify _
  · exact h

theorem itemReady (n : Nat) (k : Pict) : r.SameSupply (s.itemReady n k) := h.of_keeps ((Keeps.refl s).itemReady n k)

theorem makeItem (n : Nat) (k : Pict) (priority : Nat) (deadline : Option Nat) (policy : Policy) (origin : Origin) (st : ItemState) :
    r.SameSupply (s.makeItem n k priority deadline policy origin st) := by
  have made (t : Tet) := (h.setTet t).notifyExpired s.tet.nextItem deadline
  unfold State.makeItem; dsimp only
  split
  · exact (made _).itemReady n k
  · exact made _

theorem mergeItem (x : Item) (priority : Nat) (deadline : Option Nat) (policy : Policy) :
    r.SameSupply (s.mergeItem x priority deadline policy) := by
  have merged (t : Tet) := (h.setTet t).notifyExpired x.number (x.merge priority deadline policy).deadline
  unfold State.mergeItem State.judgeRise; dsimp only
  split
  · exact (merged _).notify _
  · exact merged _

theorem findPicture (n : Nat) (k : Pict) (m : Nat) : r.SameSupply (s.findPicture n k m).1 :=
  h.of_keeps ((Keeps.refl s).findPicture n k m)

theorem requestItem (n : Nat) (k : Pict) (priority : Nat) (deadline : Option Nat) (policy : Policy) (origin : Origin) :
    r.SameSupply (s.requestItem n k priority deadline policy origin).1 := by
  have found := h.findPicture n k s.tet.nextItem
  unfold State.requestItem; dsimp only
  split
  · exact h
  split
  · exact h.mergeItem _ _ _ _
  split
  · exact h
  split
  · exact found
  · exact found.makeItem _ _ _ _ _ _ _

theorem decline (item : Option Nat) (n : Nat) (k : Pict) (origin : Origin) (rule transfer : Option Nat) (reason : DeclineReason) :
    r.SameSupply (s.decline item n k origin rule transfer reason) := (h.setTet _).raise _ _

theorem tellRule (n : Nat) (k : Pict) (index : Nat) (o : ItemOutcome) : r.SameSupply (s.tellRule n k index o) := by
  unfold State.tellRule; split
  case h_9 => exact (h.setTet _).raise _ _
  case h_6 | h_7 | h_8 => exact h.decline _ _ _ _ _ _ _
  all_goals exact h

theorem evaluateRule (i index : Nat) (x : SendRule) (which : RuleMatch → Bool) : r.SameSupply (s.evaluateRule i index x which) := by
  unfold State.evaluateRule State.applyRule
  split
  · exact h
  split
  · exact h
  split
  · exact (h.requestItem _ _ _ _ _ _).tellRule _ _ _ _
  · exact h

theorem relookItem (x : Item) : r.SameSupply (s.relookItem x) := by
  have looked := h.findPicture x.shot x.kind x.number
  unfold State.relookItem; dsimp only
  split
  · exact (looked.decline _ _ _ _ _ _ _).of_keeps ((Keeps.refl _).removeItem x)
  · split
    · exact (looked.setTet _).itemReady _ _
    · exact looked.setTet _

/-! ### Shots committed out of the ring (R9, R18, R23, R49) -/

theorem requestJob (i : Nat) (k : Pict) (look : JobLook) : r.SameSupply (s.requestJob i k look).1 :=
  h.of_keeps ((Keeps.refl s).requestJob i k look)

theorem completionJobs (i : Nat) : r.SameSupply (s.completionJobs i) := by
  unfold State.completionJobs; dsimp only
  split
  · exact h
  split
  · exact (h.requestJob _ _ _).requestJob _ _ _
  · exact h.requestJob _ _ _

theorem evaluateRules (i : Nat) (which : RuleMatch → Bool) : r.SameSupply (s.evaluateRules i which) :=
  (h.evaluateRule i 0 _ which).evaluateRule i 1 _ which

theorem completeRaw (i : Nat) : r.SameSupply (s.completeRaw i) := by
  have complete := h.mapObj i .raw fun o => { o with complete := true, cardBound := true }
  exact (((complete.cardJobs i .raw).completionJobs i).evaluateRules i _).of_keeps (((Keeps.refl _).setHolds _ _ _).lookIf _)

theorem reportBuffered (i : Nat) (sh : Shot) : r.SameSupply (s.reportBuffered i sh) := by
  unfold State.reportBuffered; split
  · exact h
  · exact h.raise _ _

theorem commitRing (i : Nat) : r.SameSupply (s.commitRing i) := by
  unfold State.commitRing
  split
  · exact h
  next n _ =>
    have numbered : r.SameSupply (s.setSbm s.sbm.takeNumber) := h.next rfl rfl
    have counted := (numbered.mapShot i fun sh =>
      { sh with state := s.commitState i, number := some n, look := some s.settings.lookSnapshot }).setCap
    dsimp only
    split
    · exact counted _
    split
    · exact (((counted _).raise _ _).completeRaw i).reportBuffered _ _
    · exact ((counted _).raise _ _).releaseHold _ _ _

theorem ringToBurst : r.SameSupply s.ringToBurst := (foldl _ _ (h.setCap _) fun _ i ht => ht.commitRing i).notify _

/-- The drive state's reaction; out of RING it keeps all that a step's end does. -/
theorem driveOnce : r.SameSupply s.driveOnce := by
  by_cases ring : s.cap.drive = .ring
  · simp only [State.driveOnce, ring]
    split
    · exact h.ringToBurst
    split
    · exact h.of_keeps (((Keeps.refl s).discardWholeRing.dropFrame.toIdleDrive).leaveIdle)
    · exact h
  · exact h.of_keeps ((Keeps.refl s).driveOnce ring)

theorem driveReact : r.SameSupply s.driveReact := by
  unfold State.driveReact; split
  · exact h.driveOnce
  · exact h

/-! ### The power state left and entered (R37, R65, R88, R210) -/

theorem endSequence : r.SameSupply s.endSequence := by
  unfold State.endSequence; dsimp only
  refine setCap ?_ _
  split
  · exact h.of_keeps (Keeps.refl s).stopBurst.toIdleDrive
  · exact h.of_keeps (Keeps.refl s).discardWholeRing.dropFrame.toIdleDrive
  all_goals exact h.of_keeps (Keeps.refl s).dropFrame.toIdleDrive

theorem powerDownSensor : r.SameSupply s.powerDownSensor := by
  unfold State.powerDownSensor; split
  · exact h.setCap _
  · exact (h.setCap _).setFoc _
  all_goals exact h

theorem leaveActive : r.SameSupply s.leaveActive := h.endSequence.powerDownSensor.setFoc _

theorem powerUpSensor : r.SameSupply s.powerUpSensor := by
  unfold State.powerUpSensor; split
  · exact h.setCap _
  · exact h

theorem enterActive : r.SameSupply s.enterActive := (h.powerUpSensor.notify _).driveReact

/-! ### What a change of the level asks of the other blocks (R118, R119, R154, R175) -/

theorem abandonPass : r.SameSupply s.abandonPass := by
  have returned (n : Nat) (k : Pict) : r.SameSupply (s.returnJob n k) := by
    unfold State.returnJob; split
    · exact h
    · exact h.setDev _
  unfold State.abandonPass
  split
  · exact returned _ _
  next p _ =>
    exact foldl _ _ ((returned _ _).of_keeps ((Keeps.refl _).removeObj p.entry .rendition)) fun _ x ht => ht.relookItem x
  all_goals exact h

theorem levelToDev : r.SameSupply s.levelToDev := by
  unfold State.levelToDev
  split
  · exact h.notify _
  · split
    · exact h.setDev _
    all_goals exact h
  · split
    · exact h.setDev _
    all_goals exact h.abandonPass

theorem resumeSlot (sl : Slot) : r.SameSupply (s.resumeSlot sl) := (h.of_keeps ((Keeps.refl s).recallAsk sl)).tryHead sl

theorem levelToCrd (before : PowerLevel) : r.SameSupply (s.levelToCrd before) := by
  unfold State.levelToCrd; split
  · exact (h.resumeSlot .a).resumeSlot .b
  · exact h

theorem levelToTet (before : PowerLevel) : r.SameSupply (s.levelToTet before) := by
  unfold State.levelToTet
  split
  · exact h.of_keeps ((Keeps.refl s).returnTransfer true)
  split
  · exact h.notify _
  · exact h

theorem settle : r.SameSupply s.settle := h.of_keeps s.settle_kept

end

end State.SameSupply

end Sys2Proof.Machine
end

section
/-! PROOFS. The supply's readings and the power states (Chapter 9). -/

namespace Sys2Proof.Machine.PowerStates
open Sys2Proof LensDrive PhaseMeasurement

/-! ### The supply's level (R206, R207) -/

/-- A change of the level changes nothing else of the Supervisor. -/
theorem setLevel_supply (s : State) (new : PowerLevel) : (s.setSup { s.sup with level := new }).SameSupply (s.setLevel new) := by
  unfold State.setLevel; dsimp only
  split
  next same => exact ⟨by rw [same]; rfl, rfl⟩
  next => exact (((((State.SameSupply.refl _).raise _ _).notify _).levelToDev).levelToCrd _).levelToTet _

theorem takeReading_sup (s : State) (mv : Nat) :
    (s.takeReading mv).sup = { s.sup with reading := mv, readingDue := s.sup.elapsed + 1000,
                                          level := levelAfter s.settings.low s.settings.critical s.sup.level mv } :=
  (setLevel_supply _ _).sup

theorem carryTo_level (s : State) (d : Nat) : (s.carryTo d).sup.level = s.sup.level := by
  unfold State.carryTo; split <;> rfl

theorem exec_supplyReading {s : State} (held : s.held = false) (mv : Nat) :
    exec (.supplyReading mv) s = .next ((s.carryTo s.sup.readingDue).takeReading mv).settle :=
  congrArg Host.Outcome.next (timer_of_due held rfl fun x => x.takeReading mv)

/-! The table of R207, a row for each level before the reading. -/

section
variable {low critical : Nat} (apart : critical + 100 ≤ low) (reading : Nat)
include apart

theorem levelAfter_normal :
    (levelAfter low critical .normal reading = .critical ↔ reading < critical)
    ∧ (levelAfter low critical .normal reading = .low ↔ critical ≤ reading ∧ reading < low)
    ∧ (levelAfter low critical .normal reading = .normal ↔ low ≤ reading) := by
  unfold levelAfter; dsimp only
  repeat' split
  all_goals simp only [eq_self, reduceCtorEq, true_iff, false_iff]; omega

theorem levelAfter_low :
    (levelAfter low critical .low reading = .critical ↔ reading < critical)
    ∧ (levelAfter low critical .low reading = .low ↔ critical ≤ reading ∧ reading < low + 100)
    ∧ (levelAfter low critical .low reading = .normal ↔ low + 100 ≤ reading) := by
  unfold levelAfter; dsimp only
  repeat' split
  all_goals simp only [eq_self, reduceCtorEq, true_iff, false_iff]; omega

theorem levelAfter_critical :
    (levelAfter low critical .critical reading = .critical ↔ reading < critical + 100)
    ∧ (levelAfter low critical .critical reading = .low ↔ critical + 100 ≤ reading ∧ reading < low + 100)
    ∧ (levelAfter low critical .critical reading = .normal ↔ low + 100 ≤ reading) := by
  unfold levelAfter; dsimp only
  repeat' split
  all_goals simp only [eq_self, reduceCtorEq, true_iff, false_iff]; omega

/-- The first reading after a reset is judged as one at NORMAL. -/
theorem firstLevel_table :
    (firstLevel low critical reading = .normal ↔ low ≤ reading)
    ∧ (firstLevel low critical reading = .low ↔ critical ≤ reading ∧ reading < low)
    ∧ (firstLevel low critical reading = .critical ↔ reading < critical) := by
  unfold firstLevel
  repeat' split
  all_goals simp only [eq_self, reduceCtorEq, true_iff, false_iff]; omega

end

/-- Settles O35: the step of a reading, then the table by the level before it. -/
theorem supplyReadingSetsTheLevel : Obligations.SupplyReadingSetsTheLevel := by
  refine ⟨fun s mv held => ?reading, fun low critical reading apart => ?table⟩
  case reading =>
    have fixed := ((State.Inner.refl (s.carryTo s.sup.readingDue)).takeReading mv).settle.fixed
    refine ⟨_, exec_supplyReading held mv, ?_, (congrArg Fixed.settings fixed).trans (State.carryTo_settings ..),
      (congrArg Fixed.replies fixed).trans (congrArg Link.replies (State.carryTo_link ..))⟩
    rw [settle_sup, takeReading_sup, State.carryTo_settings, carryTo_level]
  case table =>
    obtain ⟨n1, n2, n3⟩ := levelAfter_normal apart reading
    obtain ⟨l1, l2, l3⟩ := levelAfter_low apart reading
    obtain ⟨c1, c2, c3⟩ := levelAfter_critical apart reading
    exact ⟨n1, n2, n3, l1, l2, l3, c1, c2, c3, firstLevel_table apart reading⟩

/-! ### A change of the power state (R210, R212) -/

/-- A change of the power state changes nothing else of the Supervisor, and not the DRAM's power. -/
theorem setPowerState_supply (s : State) (new : PowerState) :
    (s.setSup { s.sup with power := new }).SameSupply (s.setPowerState new) := by
  unfold State.setPowerState; dsimp only
  split
  next same => exact ⟨by rw [← same]; rfl, rfl⟩
  next =>
    split
    · exact (State.SameSupply.refl _).leaveActive
    split
    · exact (State.SameSupply.refl _).enterActive
    · exact .refl _

theorem wokenTo_sup (s : State) (new : PowerState) (cause : WakeCause) :
    (s.wokenTo new cause).sup = { s.sup with power := new } :=
  (setPowerState_supply _ new).sup.trans
    (congrArg (fun u : Sup => { u with power := new }) ((State.SameSupply.refl s).raise _ _).sup)

theorem wokenTo_dramOn (s : State) (new : PowerState) (cause : WakeCause) : (s.wokenTo new cause).sbm.dramOn = s.sbm.dramOn :=
  (setPowerState_supply _ new).dramOn.trans ((State.SameSupply.refl s).raise _ _).dramOn

theorem sleep_sup (s : State) : s.sleep.sup = { s.sup with power := .dormant } := (setPowerState_supply s .dormant).sup

/-! ### SET_POWER by the power state in force (R211 to R214) -/

theorem askPower_of_same {s : State} (awake : s.sup.power ≠ .dormant) :
    s.askPower s.sup.power = { state := s, status := .ok } := by
  unfold State.askPower
  cases power : s.sup.power with
  | active | standby => rfl
  | dormant => exact absurd power awake

theorem askPower_standby {s : State} (active : s.sup.power = .active) :
    s.askPower .standby = { state := s.setPowerState .standby, status := .ok } := by
  simp only [State.askPower, active]

theorem askPower_active {s : State} (standby : s.sup.power = .standby) :
    s.askPower .active = { state := s.wokenTo .active .command, status := .ok } := by
  simp only [State.askPower, standby]

theorem askPower_dormant {s : State} (awake : s.sup.power ≠ .dormant) : s.askPower .dormant = s.askDormant := by
  unfold State.askPower
  cases power : s.sup.power with
  | active | standby => rfl
  | dormant => exact absurd power awake

theorem askDormant_of_free {s : State} (free : ∀ b, s.barred b = false) :
    s.askDormant = { state := s.sleep, status := .ok } := if_neg (by simp [free])

theorem mem_dormantBar_all (b : DormantBar) : b ∈ DormantBar.all := by cases b <;> decide

theorem askDormant_of_barred {s : State} {b : DormantBar} (barred : s.barred b = true) :
    s.askDormant = { state := s, status := .state, rest := setOf DormantBar.all s.barred } :=
  if_pos (List.any_eq_true.mpr ⟨b, mem_dormantBar_all b, barred⟩)

theorem askPower_of_asleep {s : State} {p : PowerState} (asleep : s.sup.power = .dormant) (other : p ≠ .dormant) :
    s.askPower p = { state := s.wakeTo p .command, status := .ok } := by
  unfold State.askPower
  cases p with
  | active | standby => simp only [asleep]
  | dormant => exact absurd rfl other

theorem askPower_dormant_of_asleep {s : State} (asleep : s.sup.power = .dormant) :
    s.askPower .dormant = { state := s, status := if s.sup.wake.isSome then .busy else .ok } := by
  simp only [State.askPower, asleep]

theorem wakeTo_of_quiet {s : State} (quiet : s.sup.wake = none) (target : PowerState) (cause : WakeCause) :
    s.wakeTo target cause
      = { s with sup := { s.sup with wake := some { target := target, cause := cause, endDue := s.sup.elapsed + 8000 } },
                 sbm := { s.sbm with dramOn := true } } := by
  simp only [State.wakeTo, quiet]; rfl

theorem wakeTo_of_waking {s : State} {w : Wake} (waking : s.sup.wake = some w) (target : PowerState) (cause : WakeCause) :
    s.wakeTo target cause
      = { s with sup := { s.sup with wake := some { target := target, cause := cause, endDue := w.endDue } } } := by
  simp only [State.wakeTo, waking]; rfl

/-! ### The step of SET_POWER (R221, R223) -/

/-- A taken command that DORMANT does not refuse acts, the step is carried to its end, and the reply joins its queue. -/
theorem take_of_takes {s : State} (h : s.Takes) (kind tag : Nat) (act : State → Answer) :
    s.take kind tag false act = (act s).state.settle.pushReply (replyKind kind) tag (act s).status (act s).rest := by
  simp [State.take, h.running, deaf_of_takes h]

section
variable {s t : State} (h : s.Takes) (tag : Nat) {p : PowerState}
include h

theorem exec_setPower {status : Status} {rest : List Byte}
    (answer : s.askPower p = { state := t, status := status, rest := rest }) :
    exec (.setPower tag (some p)) s = .next (t.settle.pushReply 0x91 tag status rest) := by
  have taken := take_of_takes h 0x11 tag fun x => x.askPower p
  rw [answer] at taken
  exact congrArg Host.Outcome.next taken

/-- An answer that changes nothing, in a steady state, adds its reply alone. -/
theorem exec_setPower_of_steady {status : Status} {rest : List Byte} (steady : s.Steady)
    (answer : s.askPower p = { state := s, status := status, rest := rest }) :
    exec (.setPower tag (some p)) s = .next (s.pushReply 0x91 tag status rest) := by
  rw [exec_setPower h tag answer, steadyStepEndChangesNothing s steady]

/-- A power state changed at once: the settings stay, and one reply is added. -/
theorem exec_setPower_changes (answer : s.askPower p = { state := t, status := .ok }) (inner : s.Inner t) {u : Sup} {on : Bool}
    (sup : t.sup = u) (dramOn : t.sbm.dramOn = on) :
    ∃ x, exec (.setPower tag (some p)) s = .next x ∧ x.sup = u ∧ x.settings = s.settings ∧ x.sbm.dramOn = on
      ∧ x.link.replies = s.link.replies ++ [{ kind := 0x91, tag := tag, body := [Status.byte .ok] }] := by
  have settled := (State.SameSupply.refl t).settle
  have fixed := inner.settle.fixed
  refine ⟨_, exec_setPower h tag answer, settled.sup.trans sup, congrArg Fixed.settings fixed, settled.dramOn.trans dramOn, ?_⟩
  rw [State.pushReply_replies, show t.settle.link.replies = s.link.replies from congrArg Fixed.replies fixed]

end

/-- Settles O33: each cell of the table by its answer. -/
theorem setPowerFollowsTheTable : Obligations.SetPowerFollowsTheTable := by
  refine ⟨?same, fun s tag h active => ?standby, fun s tag h standby => ?active, fun s tag h awake free => ?sleeps,
    fun s tag b h steady awake barred => ?barred, fun s tag p h asleep other quiet => ?wakes,
    fun s tag p w h asleep other waking => ?retargets, fun s tag h steady asleep => ?asleep⟩
  case same =>
    rintro s tag _ h steady rfl awake
    exact exec_setPower_of_steady h tag steady (askPower_of_same awake)
  case standby =>
    have supply := setPowerState_supply s .standby
    exact exec_setPower_changes h tag (askPower_standby active) ((State.Inner.refl s).setPowerState _) supply.sup supply.dramOn
  case active =>
    exact exec_setPower_changes h tag (askPower_active standby) ((State.Inner.refl s).wokenTo _ _) (wokenTo_sup ..)
      (wokenTo_dramOn ..)
  case sleeps =>
    have answer := (askPower_dormant awake).trans (askDormant_of_free free)
    exact exec_setPower_changes h tag answer (State.Inner.refl s).sleep (sleep_sup s) rfl
  case barred => exact exec_setPower_of_steady h tag steady ((askPower_dormant awake).trans (askDormant_of_barred barred))
  case wakes => rw [exec_setPower h tag (askPower_of_asleep asleep other), wakeTo_of_quiet quiet]
  case retargets => rw [exec_setPower h tag (askPower_of_asleep asleep other), wakeTo_of_waking waking]
  case asleep => exact exec_setPower_of_steady h tag steady (askPower_dormant_of_asleep asleep)

end Sys2Proof.Machine.PowerStates
end

section
/-! PROOFS. Reports by their route and the attention lines, IDENTIFY, chip select and the frame assembler, and the deaf link
(Chapter 10). -/

namespace Sys2Proof.Machine.CommandLink
open Sys2Proof LensDrive EveryRow StoredSettings

/-! ### A raised report by its route (R225, R228) -/

theorem route_of_getElem? {g : Settings} {k : ReportKind} {r : Route} (routed : g.routes[k.number - 1]? = some r) : g.route k = r := by
  rw [Settings.route, List.getD_eq_getElem?_getD, routed, Option.getD_some]

theorem line_route {g : Settings} {k : ReportKind} {l : Line} (routed : (g.routes[k.number - 1]?).bind Route.line = some l) :
    Route.line (g.route k) = some l := by
  obtain ⟨r, found, line⟩ := Option.bind_eq_some_iff.mp routed
  rw [route_of_getElem? found, line]

theorem raise_of_off {s : State} {k : ReportKind} (off : Route.line (s.settings.route k) = none) (fs : List Byte) : s.raise k fs = s := by
  unfold State.raise; rw [off]

theorem raise_of_line {s : State} {k : ReportKind} {l : Line} (routed : Route.line (s.settings.route k) = some l) (fs : List Byte) :
    s.raise k fs = s.setLink (s.link.take l k s.sup.timeBase fs) := by
  unfold State.raise; rw [routed]

theorem take_of_room {l : Link} (room : l.reports.length < 64) (line : Line) (k : ReportKind) (t : Nat) (fs : List Byte) :
    l.take line k t fs = { l with
      nextSeq := (l.nextSeq + 1) % 65536,
      reports := l.reports ++ [{ kind := k, line := line, seq := l.nextSeq, time := t, fields := fs }] } := if_pos room

theorem take_of_full {l : Link} (full : 64 ≤ l.reports.length) (line : Line) (k : ReportKind) (t : Nat) (fs : List Byte) :
    l.take line k t fs = { l with nextSeq := (l.nextSeq + 1) % 65536, lost := min 65535 (l.lost + 1) } :=
  if_neg (Nat.not_lt.mpr full)

/-- Settles O36: the route OFF, then a queue with room, then a full one. -/
theorem raisedReportsFollowTheirRoute : Obligations.RaisedReportsFollowTheirRoute := by
  refine ⟨fun s k fs off => ?off, fun s k fs l routed room => ?queued, fun s k fs l routed full => ?lost⟩
  case off => exact raise_of_off (congrArg Route.line (route_of_getElem? off)) fs
  case queued => rw [raise_of_line (line_route routed), take_of_room room]; rfl
  case lost => rw [raise_of_line (line_route routed), take_of_full full]; rfl

/-! ### The attention lines (R226) -/

theorem attn_iff {s : State} (running : s.held = false) (l : Line) : s.attn l = true ↔ ∃ r ∈ s.link.reports, r.line = l := by
  simp [State.attn, running]

theorem attn_of_noReports {s : State} (empty : s.link.reports = []) (l : Line) : s.attn l = false := by
  simp [State.attn, empty]

theorem attn_of_held {s : State} (held : s.held = true) (l : Line) : s.attn l = false := by
  simp [State.attn, held]

theorem attn_raise_of_full {s : State} (full : 64 ≤ s.link.reports.length) (k : ReportKind) (fs : List Byte) (l : Line) :
    (s.raise k fs).attn l = s.attn l := by
  unfold State.raise; split
  · rfl
  · show (!s.held && (s.link.take _ k s.sup.timeBase fs).reports.any _) = s.attn l
    rw [take_of_full full]; rfl

/-- Settles O37: each line is what the report queue holds, and low wherever that is empty or the part is held. -/
theorem attentionLinesFollowTheQueue : Obligations.AttentionLinesFollowTheQueue :=
  ⟨fun _ running => ⟨attn_iff running .line0, attn_iff running .line1⟩, fun _ k fs l full => attn_raise_of_full full k fs l,
    fun _ _ _ l => attn_of_noReports rfl l, fun _ l held => attn_of_held (Option.isSome_iff_ne_none.mpr held) l⟩

/-! ### IDENTIFY (R229) -/

/-- A command DORMANT does not refuse acts, the step is carried to its end, and the reply joins its queue. -/
theorem take_of_takes {s : State} (h : s.Takes) (kind tag : Nat) (act : State → Answer) :
    s.take kind tag false act = (act s).state.settle.pushReply (replyKind kind) tag (act s).status (act s).rest := by
  simp [State.take, h.running, deaf_of_takes h]

/-- The texts and constants of R229 written out. -/
theorem identity_eq (s : State) :
    s.identity = [7, 0x4D, 0x65, 0x72, 0x6F, 0x73, 0x74, 0x61] ++ [6, 0x5A, 0x50, 0x2D, 0x36, 0x31, 0x34] ++ [1] ++ [1] ++ [0x00, 0x10]
        ++ [8] ++ [64] ++ code ResetCause.all s.sup.cause ++ flag s.sup.defaulted ++ le 8 s.sup.timeBase
        ++ be 6 s.settings.tether.part.toNat := rfl

/-- Settles O23: the reply by its fields, then the KIND's body, which has none. -/
theorem identifyIsTakenInEveryPowerState : Obligations.IdentifyIsTakenInEveryPowerState := by
  refine ⟨fun s tag takes steady => ?taken, fun tag body => ?read⟩
  case taken =>
    show Host.Outcome.next (s.take 0x01 tag false _) = _
    rw [take_of_takes takes, steadyStepEndChangesNothing s steady, identity_eq]; rfl
  case read => cases body <;> rfl

/-! ### Chip select and the frame assembler (R219, R220, R222) -/

theorem close_of_frame {l : Link} (frame : l.assembler = .frame) :
    l.close = { l with assembler := .closed, shifting := false, errors := next32 l.errors, lastError := some .incomplete } := by
  rw [Link.close, if_pos frame]; rfl

theorem close_of_notFrame {l : Link} (notFrame : l.assembler ≠ .frame) :
    l.close = { l with assembler := .closed, shifting := false } := by
  rw [Link.close, if_neg notFrame]

theorem exec_chipSelectFall {s : State} (running : s.held = false) (high : s.pins.chipSelect = true) :
    exec .chipSelectFall s = .next ((s.chipSelect false).setLink s.link.open).settle :=
  congrArg Host.Outcome.next ((if_pos high).trans (event_of_running (s := s.chipSelect false) running _))

theorem exec_chipSelectRise {s : State} (running : s.held = false) (low : s.pins.chipSelect = false) :
    exec .chipSelectRise s = .next ((s.chipSelect true).setLink s.link.close).settle :=
  congrArg Host.Outcome.next ((if_neg (by simp [low])).trans (event_of_running (s := s.chipSelect true) running _))

/-- Settles O20: each event's own change of the link, carried to the step's end. -/
theorem chipSelectAndAssembler : Obligations.ChipSelectAndAssembler := by
  refine ⟨fun s running high => ?falls, fun s running low frame => ?incomplete, fun s running low notFrame => ?rises,
    fun s running hunts => ?sync, fun s length running frame long => ?oversize⟩
  case falls => exact exec_chipSelectFall running high
  case incomplete => rw [exec_chipSelectRise running low, close_of_frame frame]; rfl
  case rises => rw [exec_chipSelectRise running low, close_of_notFrame notFrame]; rfl
  case sync =>
    show Host.Outcome.next (s.event _) = _
    rw [event_of_running running, Link.sync, if_pos hunts]; rfl
  case oversize =>
    show Host.Outcome.next (s.event _) = _
    rw [event_of_running running, Link.oversize, if_pos ⟨frame, long⟩]; rfl

/-! ### The deaf link (R221, R222, R231) -/

theorem deaf_iff (l : Link) : l.deaf = true ↔ l.resetDue ≠ none ∨ 8 ≤ l.replies.length := by
  rw [Link.deaf, Bool.or_eq_true, Option.isSome_iff_ne_none, decide_eq_true_iff, Config.replyQueue]

theorem take_of_deaf {s : State} (running : s.held = false) (deaf : s.link.deaf = true) (kind tag : Nat) (awake : Bool)
    (act : State → Answer) : s.take kind tag awake act = s.discardCommand := by
  simp [State.take, running, deaf]

/-- Settles O16: every host command is taken by the link first, which discards it. -/
theorem deafLinkDiscardsCommands : Obligations.DeafLinkDiscardsCommands := by
  intro c s command running deaf
  obtain ⟨p, parts⟩ := Option.isSome_iff_exists.mp command
  obtain ⟨awake, act, -, -, taken⟩ := isTaken c p parts
  rw [taken, take_of_deaf running ((deaf_iff _).mpr deaf)]; rfl

end Sys2Proof.Machine.CommandLink
end

section
/-! PROOFS. What fits a body of 4,096 bytes: the parts of a status reply, and the records READ_REPORTS takes (Chapter 10). -/

namespace Sys2Proof.Machine.CommandLink
open Sys2Proof LensDrive EveryRow StoredSettings

/-! ### The parts of a status reply (R230) -/

/-- The parts given are a first stretch of those wanted. -/
theorem fitting_eq_take (s : State) (ps : List StatusPart) (room : Nat) :
    s.fitting ps room = ps.take (s.fitting ps room).length := by
  induction ps generalizing room with
  | nil => rfl
  | cons p ps ih =>
    unfold State.fitting; split
    · exact congrArg (p :: ·) (ih _)
    · rfl

theorem fitting_length_le (s : State) (ps : List StatusPart) (room : Nat) : (s.fitting ps room).length ≤ ps.length := by
  rw [fitting_eq_take]; exact List.length_take_le' ..

theorem fitting_bytes_le (s : State) (ps : List StatusPart) (room : Nat) : ((s.fitting ps room).flatMap s.part).length ≤ room := by
  induction ps generalizing room with
  | nil => exact Nat.zero_le _
  | cons p ps ih =>
    unfold State.fitting; split
    next fits =>
      have rest := ih (room - (s.part p).length)
      rw [List.flatMap_cons, List.length_append]; omega
    next => exact Nat.zero_le _

/-- The first part left out is one that does not fit. -/
theorem fitting_stops (s : State) {ps : List StatusPart} {room : Nat} {p : StatusPart}
    (left : (ps.drop (s.fitting ps room).length).head? = some p) :
    room < ((s.fitting ps room).flatMap s.part).length + (s.part p).length := by
  induction ps generalizing room with
  | nil => simp at left
  | cons q ps ih =>
    unfold State.fitting at left ⊢; split at left
    next fits =>
      have rest := ih left
      rw [if_pos fits, List.flatMap_cons, List.length_append]; omega
    next short =>
      obtain rfl : q = p := by simpa using left
      rw [if_neg short]; simpa using short

theorem wanted_length_le (asked : List StatusPart) :
    (StatusPart.all.filter fun p => asked.isEmpty || asked.contains p).length ≤ 9 := List.length_filter_le ..

theorem code_length {α : Type} [BEq α] (set : List α) (a : α) : (code set a).length = 1 := rfl

/-- Settles O25: the lengths of the two lists of codes and of the parts given, then the part the stretch stops at. -/
theorem statusPartsFitTheBody : Obligations.StatusPartsFitTheBody := by
  intro s asked
  have wanted := wanted_length_le asked
  unfold State.statusBytes maxBody
  generalize (StatusPart.all.filter fun p => asked.isEmpty || asked.contains p) = ps at wanted ⊢
  have bytes := fitting_bytes_le s ps (4096 - (3 + ps.length))
  have given := fitting_length_le s ps (4096 - (3 + ps.length))
  refine ⟨?fits, (s.fitting ps (4096 - (3 + ps.length))).length, ?parts, fun p left => ?stops⟩
  case fits =>
    simp only [List.length_append, Laws.listOf_length _ 1 _ (code_length _), List.length_drop]; omega
  case parts => dsimp only; rw [← fitting_eq_take]
  case stops =>
    have stops := fitting_stops s left
    rw [← fitting_eq_take]; omega

/-! ### READ_REPORTS (R225, R227): a step's end does not look at the link -/

theorem refreshFocus_setLink (s : State) (l : Link) : (s.setLink l).refreshFocus = s.refreshFocus.setLink l := by
  have active : (s.setLink l).focusActive = s.focusActive := rfl
  unfold State.refreshFocus; rw [active, State.setLink_foc]
  split
  · by_cases idle : s.foc.state = .idle
    · rw [if_pos idle, if_pos idle]; rfl
    · rw [if_neg idle, if_neg idle]
  · split <;> rfl

theorem notify_setLink (s : State) (l : Link) (n : Notice) : (s.setLink l).notify n = (s.notify n).setLink l := by
  unfold State.notify; rw [State.setLink_notices]
  by_cases asked : s.notices.contains n = true
  · rw [if_pos asked, if_pos asked]
  · rw [if_neg asked, if_neg asked]; rfl

theorem gateRefresh_setLink (s : State) (l : Link) : (s.setLink l).gateRefresh = s.gateRefresh.setLink l := by
  have answer : (s.setLink l).gateAnswer = s.gateAnswer := rfl
  unfold State.gateRefresh; rw [State.setLink_cap]
  split
  · dsimp only
    rw [answer, State.setLink_foc]
    by_cases same : s.foc.gate = some s.gateAnswer
    · rw [if_pos same, if_pos same]; rfl
    · rw [if_neg same, if_neg same]; exact notify_setLink (s.setFoc _) l .evaluate
  · rfl

theorem Steady.setLink {s : State} (steady : s.Steady) (l : Link) : (s.setLink l).Steady := by
  obtain ⟨quiet, fresh⟩ := steady
  refine ⟨quiet, ?_⟩
  rw [State.refresh, refreshFocus_setLink, gateRefresh_setLink]
  exact congrArg (State.setLink · l) fresh

/-! What is picked of the queued records, by induction on the queue. -/

section
variable (sel : LineSel)

/-- The records taken are a first stretch of those of the selector's lines. -/
theorem pickRecords_taken (rs : List Record) (count room : Nat) :
    (pickRecords sel rs count room).1 = (rs.filter fun r => sel.names r.line).take (pickRecords sel rs count room).1.length := by
  induction rs generalizing count room with
  | nil => rfl
  | cons r rs ih =>
    unfold pickRecords
    split
    next named =>
      rw [List.filter_cons_of_pos (by exact named)]
      split
      · rfl
      · exact congrArg (r :: ·) (ih _ _)
    next other => rw [List.filter_cons_of_neg (by exact other)]; exact ih _ _

theorem pickRecords_left_named (rs : List Record) (count room : Nat) :
    ((pickRecords sel rs count room).2.filter fun r => sel.names r.line)
      = (rs.filter fun r => sel.names r.line).drop (pickRecords sel rs count room).1.length := by
  induction rs generalizing count room with
  | nil => rfl
  | cons r rs ih =>
    unfold pickRecords
    split
    next named =>
      rw [List.filter_cons_of_pos (by exact named)]
      split
      · exact List.filter_cons_of_pos (by exact named)
      · exact ih _ _
    next other => rw [List.filter_cons_of_neg (by exact other), List.filter_cons_of_neg (by exact other)]; exact ih _ _

theorem pickRecords_left_other (rs : List Record) (count room : Nat) :
    ((pickRecords sel rs count room).2.filter fun r => !sel.names r.line) = rs.filter fun r => !sel.names r.line := by
  induction rs generalizing count room with
  | nil => rfl
  | cons r rs ih =>
    unfold pickRecords
    split
    next named =>
      split
      · rfl
      · rw [List.filter_cons_of_neg (by simp [named])]; exact ih _ _
    next other =>
      rw [List.filter_cons_of_pos (by simp [other]), List.filter_cons_of_pos (by simp [other])]; exact congrArg (r :: ·) (ih _ _)

theorem pickRecords_left_sublist (rs : List Record) (count room : Nat) : (pickRecords sel rs count room).2.Sublist rs := by
  induction rs generalizing count room with
  | nil => exact .refl _
  | cons r rs ih =>
    unfold pickRecords
    split
    · split
      · exact .refl _
      · exact (ih _ _).cons r
    · exact (ih _ _).cons_cons r

theorem pickRecords_count (rs : List Record) (count room : Nat) : (pickRecords sel rs count room).1.length ≤ count := by
  induction rs generalizing count room with
  | nil => exact Nat.zero_le _
  | cons r rs ih =>
    unfold pickRecords
    split
    · split
      · exact Nat.zero_le _
      next more =>
        have rest := ih (count - 1) (room - r.bytes.length)
        simp only [Bool.or_eq_true, decide_eq_true_iff, not_or] at more
        rw [List.length_cons]; omega
    · exact ih _ _

theorem pickRecords_room (rs : List Record) (count room : Nat) :
    ((pickRecords sel rs count room).1.flatMap Record.bytes).length ≤ room := by
  induction rs generalizing count room with
  | nil => exact Nat.zero_le _
  | cons r rs ih =>
    unfold pickRecords
    split
    · split
      · exact Nat.zero_le _
      next more =>
        have rest := ih (count - 1) (room - r.bytes.length)
        simp only [Bool.or_eq_true, decide_eq_true_iff, not_or] at more
        rw [List.flatMap_cons, List.length_append]; omega
    · exact ih _ _

/-- Short of the count, the next record is one that does not fit. -/
theorem pickRecords_stops {rs : List Record} {count room : Nat} {r : Record}
    (short : (pickRecords sel rs count room).1.length < count)
    (next : (rs.filter fun r => sel.names r.line)[(pickRecords sel rs count room).1.length]? = some r) :
    room < ((pickRecords sel rs count room).1.flatMap Record.bytes).length + r.bytes.length := by
  induction rs generalizing count room with
  | nil => simp at next
  | cons q rs ih =>
    unfold pickRecords at short next ⊢
    split at short
    next named =>
      rw [if_pos named] at next ⊢
      rw [List.filter_cons_of_pos (by exact named)] at next
      split at short
      next stop =>
        rw [if_pos stop] at next ⊢
        obtain rfl : q = r := by simpa using next
        simp only [Bool.or_eq_true, decide_eq_true_iff] at stop
        exact Nat.lt_of_lt_of_le (stop.resolve_left (Nat.ne_zero_of_lt short)) (Nat.le_add_left ..)
      next more =>
        rw [if_neg more] at next ⊢
        simp only [List.length_cons, List.getElem?_cons_succ] at short next
        have rest := ih (by omega) next
        simp only [List.flatMap_cons, List.length_append]
        omega
    next other =>
      rw [if_neg other] at next ⊢
      rw [List.filter_cons_of_neg (by exact other)] at next
      exact ih short next
end

theorem clamp_of_mem {lo hi n : Nat} (low : lo ≤ n) (high : n ≤ hi) : clamp lo hi n = n := by
  unfold clamp; omega

theorem exec_readReports {s : State} (h : s.Awake) (tag count : Nat) (sel : Option LineSel) :
    exec (.readReports tag count sel) s
      = .next ((s.readReports count sel).state.settle.pushReply 0x83 tag (s.readReports count sel).status (s.readReports count sel).rest) :=
  congrArg Host.Outcome.next (take_of_awake h 0x03 tag true fun x => x.readReports count sel)

/-- Settles O26: the answer is what is picked of the queue within the body's 4,091 bytes for records. -/
theorem readReportsTakesTheOldestThatFit : Obligations.ReadReportsTakesTheOldestThatFit := by
  intro s tag count sel awake steady low high
  have read : s.readReports count (some sel) =
      { state := s.setLink { s.link with reports := (pickRecords sel s.link.reports count 4091).2, lost := 0 }, status := .ok,
        rest := le 2 s.link.lost ++ le 1 (pickRecords sel s.link.reports count 4091).1.length
          ++ le 1 (pickRecords sel s.link.reports count 4091).2.length
          ++ (pickRecords sel s.link.reports count 4091).1.flatMap Record.bytes } := by
    simp only [State.readReports, clamp_of_mem low high, bne_self_eq_false]; rfl
  have room := pickRecords_room sel s.link.reports count 4091
  refine ⟨(pickRecords sel s.link.reports count 4091).1, (pickRecords sel s.link.reports count 4091).2, ?answer,
    pickRecords_taken .., pickRecords_count .., by omega, fun short r next => ?stops, pickRecords_left_sublist ..,
    pickRecords_left_named .., pickRecords_left_other ..⟩
  case answer => rw [exec_readReports awake, read, steadyStepEndChangesNothing _ (Steady.setLink steady _)]; rfl
  case stops => have stops := pickRecords_stops sel short next; omega

end Sys2Proof.Machine.CommandLink
end

section
/-! PROOFS. The host commands written as KIND, TAG and BODY and read back (Chapter 10). -/

namespace Sys2Proof.Machine.CommandLink
open Sys2Proof LensDrive EveryRow StoredSettings

/-! ### Bytes read back as the values they spell (R224) -/

/-- The bytes spell `a` as the field `f`, whatever follows them. -/
def Reads {α : Type} (f : Field α) (bytes : List Byte) (a : α) : Prop := ∀ rest, f (bytes ++ rest) = some (a, rest)

namespace Reads
variable {α β : Type} {f : Field α} {bs cs : List Byte} {a : α}

theorem give (a : α) : Reads (Field.give a) [] a := fun _ => rfl

theorem andThen {g : α → Field β} {b : β} (first : Reads f bs a) (next : Reads (g a) cs b) : Reads (f.andThen g) (bs ++ cs) b := by
  intro rest
  rw [Field.andThen, List.append_assoc, first]
  exact next rest

theorem map {g : α → β} (h : Reads f bs a) : Reads (f.map g) bs (g a) :=
  List.append_nil bs ▸ h.andThen (give (g a))

theorem leNat_le (k n : Nat) : leNat (le k n) = n % 256 ^ k := by
  induction k generalizing n with
  | zero => rw [Nat.pow_zero, Nat.mod_one]; rfl
  | succ k ih =>
    rw [le, leNat, ih, Nat.pow_succ, Nat.mul_comm _ 256, Nat.mod_mul, BitVec.toNat_ofNat]

theorem num {k n : Nat} (fit : fits k n = true) : Reads (numField k) (le k n) n := by
  intro rest
  have len := Laws.le_length k n
  have small : n < 256 ^ k := of_decide_eq_true fit
  rw [numField, if_neg (by rw [List.length_append, len]; omega), List.take_left' len, List.drop_left' len, leNat_le,
    Nat.mod_eq_of_lt small]

theorem congr {b : α} (h : Reads f bs a) (same : a = b) : Reads f bs b := same ▸ h

theorem address (a : Addr) : Reads addrField (addr a) a := by
  intro rest
  have len := Laws.addr_length a
  have small : a.toNat < 256 ^ 6 := a.isLt
  have spelt : beNat (addr a) = a.toNat := by
    rw [beNat, addr, be, List.reverse_reverse, leNat_le, Nat.mod_eq_of_lt small]
  rw [addrField, if_neg (by rw [List.length_append, len]; omega), List.take_left' len, List.drop_left' len, spelt,
    BitVec.ofNat_toNat, BitVec.setWidth_eq]

theorem optional {k : Nat} {v : Option (Option Nat)} (fit : fitsOpt k v = true) : Reads (optField k) (putOpt k v) v := by
  match v with
  | none => exact (num (k := 1) (n := 255) rfl).andThen (cs := []) (give none)
  | some none => exact (num (k := 1) (n := 0) rfl).andThen (cs := []) (give (some none))
  | some (some n) => exact (num (k := 1) (n := 1) rfl).andThen (map (g := fun n => some (some n)) (num fit))

theorem items {put : α → List Byte} {l : List α} (each : ∀ a ∈ l, Reads f (put a) a) : Reads (itemsField f l.length) (l.flatMap put) l := by
  induction l with
  | nil => exact give []
  | cons a l ih =>
    rw [List.flatMap_cons]
    exact (each a List.mem_cons_self).andThen (ih fun b h => each b (List.mem_cons_of_mem a h)).map

theorem list {put : α → List Byte} {l : List α} (short : l.length < 256) (each : ∀ a ∈ l, Reads f (put a) a) :
    Reads (listField f) (listOf 1 put l) l :=
  (num (decide_eq_true short)).andThen (items each)

theorem pair {g : Field β} {b : β} (first : Reads f bs a) (second : Reads g cs b) : Reads (pairField f g) (bs ++ cs) (a, b) :=
  first.andThen second.map

end Reads

/-! ### Enumerated values (R223, R224) -/

/-- `set` gives every value of its type a code, and 0xFF is the code of none. -/
structure Names {α : Type} (set : List α) : Prop where
  all : ∀ a, a ∈ set
  few : set.length ≤ 255

theorem names_statusPart : Names StatusPart.all := ⟨fun a => by cases a <;> decide, by decide⟩
theorem names_lineSel : Names LineSel.all := ⟨fun a => by cases a <;> decide, by decide⟩
theorem names_reportKind : Names ReportKind.all := ⟨fun a => by cases a <;> decide, by decide⟩
theorem names_route : Names Route.all := ⟨fun a => by cases a <;> decide, by decide⟩
theorem names_powerState : Names PowerState.all := ⟨fun a => by cases a <;> decide, by decide⟩
theorem names_depth : Names Depth.all := ⟨fun a => by cases a <;> decide, by decide⟩
theorem names_driveMode : Names DriveMode.all := ⟨fun a => by cases a <;> decide, by decide⟩
theorem names_offOn : Names offOn := ⟨by decide, by decide⟩
theorem names_onOff : Names onOff := ⟨by decide, by decide⟩
theorem names_flagValues : Names flagValues := ⟨by decide, by decide⟩
theorem names_releaseAction : Names ReleaseAction.all := ⟨fun a => by cases a <;> decide, by decide⟩
theorem names_afMode : Names AfMode.all := ⟨fun a => by cases a <;> decide, by decide⟩
theorem names_tagAction : Names TagAction.all := ⟨fun a => by cases a <;> decide, by decide⟩
theorem names_pict : Names Pict.all := ⟨fun a => by cases a <;> decide, by decide⟩
theorem names_wbMode : Names WbMode.all := ⟨fun a => by cases a <;> decide, by decide⟩
theorem names_scale : Names Scale.all := ⟨fun a => by cases a <;> decide, by decide⟩
theorem names_cardMode : Names CardMode.all := ⟨fun a => by cases a <;> decide, by decide⟩
theorem names_cardContent : Names CardContent.all := ⟨fun a => by cases a <;> decide, by decide⟩
theorem names_slot : Names Slot.all := ⟨fun sl => by cases sl <;> decide, by decide⟩
theorem names_ruleMatch : Names RuleMatch.values := ⟨fun a => by cases a <;> decide, by decide⟩
theorem names_policy : Names Policy.all := ⟨fun a => by cases a <;> decide, by decide⟩
theorem names_pullAnswer : Names PullAnswer.all := ⟨fun a => by cases a <;> decide, by decide⟩

theorem Names.value_of_code {α : Type} [DecidableEq α] {set : List α} (names : Names set) (a : α) : set[set.idxOf a]? = some a := by
  have inside : set.idxOf a < set.length := List.idxOf_lt_length_iff.mpr (names.all a)
  rw [List.getElem?_eq_getElem inside]
  exact congrArg some (eq_of_beq (List.findIdx_getElem (p := (· == a)) (w := inside)))

theorem fits_code {α : Type} [DecidableEq α] {set : List α} (names : Names set) (a : α) : fits 1 (set.idxOf a) = true := by
  have := List.idxOf_lt_length_iff.mpr (names.all a)
  have := names.few
  exact decide_eq_true (by omega)

namespace Reads

theorem enum {α : Type} [DecidableEq α] {set : List α} (names : Names set) (v : Option α) : Reads (enumField set) (putEnum set v) v := by
  match v with
  | none => exact (num (k := 1) (n := 255) rfl).map.congr (List.getElem?_eq_none names.few)
  | some a => exact (num (fits_code names a)).map.congr (names.value_of_code a)

theorem kind (v : Option ReportKind) : Reads kindField (putKind v) v := by
  match v with
  | none => exact (num (k := 1) (n := 255) rfl).map
  | some k =>
    have fit : fits 1 k.number = true := by cases k <;> decide
    exact (num fit).map.congr (names_reportKind.value_of_code k)

/-! The records of fields, each number within its width. -/

theorem capture {a : CaptureArgs} (wf : a.wf = true) : Reads captureField (putCapture a) a := by
  simp only [CaptureArgs.wf, Bool.and_eq_true] at wf
  obtain ⟨⟨⟨⟨⟨⟨⟨⟨⟨exposure, gain⟩, left⟩, top⟩, width⟩, height⟩, rate⟩, ringDepth⟩, debounce⟩, step⟩ := wf
  exact (num exposure).andThen <| (num gain).andThen <| (enum names_depth _).andThen <| (num left).andThen <| (num top).andThen <|
    (num width).andThen <| (num height).andThen <| (enum names_driveMode _).andThen <| (num rate).andThen <|
    (num ringDepth).andThen <| (num debounce).andThen <| (enum names_offOn _).andThen (num step).map

theorem sync {a : SyncArgs} (wf : a.wf = true) : Reads syncField (putSync a) a := by
  simp only [SyncArgs.wf, Bool.and_eq_true] at wf
  obtain ⟨⟨⟨period, delay⟩, duration⟩, wait⟩ := wf
  have mask : fits 2 a.mask.toNat = true := decide_eq_true a.mask.isLt
  have same : BitVec.ofNat 16 a.mask.toNat = a.mask := by rw [BitVec.ofNat_toNat, BitVec.setWidth_eq]
  exact congr ((num period).andThen <| (num mask).andThen <| (num delay).andThen <| (num duration).andThen (num wait).map)
    (congrArg (fun m => { a with mask := m }) same)

theorem af {a : AfArgs} (wf : a.wf = true) : Reads afField (putAf a) a := by
  simp only [AfArgs.wf, Bool.and_eq_true] at wf
  obtain ⟨⟨⟨⟨⟨⟨⟨left, top⟩, width⟩, height⟩, minConf⟩, tolerance⟩, focusWait⟩, searchStep⟩ := wf
  exact (enum names_afMode _).andThen <| (num left).andThen <| (num top).andThen <| (num width).andThen <| (num height).andThen <|
    (num minConf).andThen <| (num tolerance).andThen <| (num focusWait).andThen (num searchStep).map

theorem lens {a : LensArgs} (wf : a.wf = true) : Reads lensField (putLens a) a := by
  simp only [LensArgs.wf, Bool.and_eq_true] at wf
  obtain ⟨⟨⟨⟨near, far⟩, gain⟩, maxPredict⟩, position⟩ := wf
  exact (enum names_flagValues _).andThen <| (num near).andThen <| (num far).andThen <| (num gain).andThen <|
    (num maxPredict).andThen (num position).map

theorem look {a : LookArgs} (wf : a.wf = true) : Reads lookField (putLook a) a := by
  simp only [LookArgs.wf, Bool.and_eq_true] at wf
  obtain ⟨⟨⟨gR, gG⟩, gB⟩, curve⟩ := wf
  exact (enum names_wbMode _).andThen <| (num gR).andThen <| (num gG).andThen <| (num gB).andThen <| (num curve).andThen <|
    (enum names_scale _).andThen <| (enum names_flagValues _).andThen (enum names_flagValues _).map

theorem tether {a : TetherArgs} (wf : a.wf = true) : Reads tetherField (putTether a) a := by
  simp only [TetherArgs.wf, Bool.and_eq_true] at wf
  obtain ⟨⟨⟨etherType, ackTimeout⟩, pullCap⟩, urgentLevel⟩ := wf
  have switch := enum names_onOff
  exact (address _).andThen <| (address _).andThen <| (num etherType).andThen <| (num ackTimeout).andThen <| (switch _).andThen <|
    (switch _).andThen <| (switch _).andThen <| (switch _).andThen <| (switch _).andThen <| (num pullCap).andThen (num urgentLevel).map

theorem rule {a : RuleArgs} (wf : a.wf = true) : Reads ruleField (putRule a) a := by
  simp only [RuleArgs.wf, Bool.and_eq_true] at wf
  obtain ⟨priority, offset⟩ := wf
  exact (enum names_ruleMatch _).andThen <| (enum names_pict _).andThen <| (num priority).andThen <| (optional offset).andThen
    (enum names_policy _).map

end Reads

/-! ### Every command row by its fields (10.5) -/

/-- A well-formed row written as a command frame is what its KIND's fields read from its BODY. -/
def ReadsBack (c : Instr) : Prop :=
  c.wf = true → ∀ p, Command.parts c = some p → ∃ f, commandField p.2.1 p.1 = some f ∧ Reads f p.2.2 c

theorem ReadsBack.of_reads {c : Instr} {kind tag : Nat} {body : List Byte} {f : Field Instr}
    (parts : Command.parts c = some (kind, tag, body)) (field : commandField tag kind = some f)
    (reads : c.wf = true → Reads f body c) : ReadsBack c := by
  intro wf p h
  obtain rfl := Option.some.inj (parts.symm.trans h)
  exact ⟨f, field, reads wf⟩

theorem ReadsBack.of_event {c : Instr} (event : Command.parts c = none) : ReadsBack c :=
  fun _ _ h => nomatch event.symm.trans h

open Reads in
/-- Row by row: the fields of the KIND read the BODY the command is written as. -/
theorem readsBack : ∀ c, ReadsBack c
  | .identify _ | .reset _ | .saveSettings _ | .rejoin _ => .of_reads rfl rfl fun _ => give _
  | .getStatus tag parts => .of_reads rfl rfl fun wf => by
      simp only [Instr.wf, Bool.and_eq_true, decide_eq_true_iff] at wf
      exact (list (by omega) fun p _ => enum names_statusPart p).map
  | .readReports tag count sel => .of_reads rfl rfl fun wf => by
      simp only [Instr.wf, Bool.and_eq_true] at wf
      obtain ⟨-, few⟩ := wf
      exact (num few).andThen (enum names_lineSel sel).map
  | .setRoutes tag pairs => .of_reads rfl rfl fun wf => by
      simp only [Instr.wf, Bool.and_eq_true, decide_eq_true_iff] at wf
      exact (list (by omega) fun p _ => (kind p.1).pair (enum names_route p.2)).map
  | .setTime tag time => .of_reads rfl rfl fun wf => (num (Bool.and_eq_true_iff.mp wf).2).map
  | .setThresholds _ _ _ | .listShots _ _ _ | .readCardIndex _ _ _ | .develop _ _ _ | .readQueue _ _ _ => .of_reads rfl rfl fun wf => by
      simp only [Instr.wf, Bool.and_eq_true] at wf
      obtain ⟨⟨-, first⟩, second⟩ := wf
      exact (num first).andThen (num second).map
  | .setPower tag target => .of_reads rfl rfl fun _ => (enum names_powerState target).map
  | .setCapture tag a => .of_reads rfl rfl fun wf => (capture (Bool.and_eq_true_iff.mp wf).2).map
  | .setSync tag a => .of_reads rfl rfl fun wf => (sync (Bool.and_eq_true_iff.mp wf).2).map
  | .release tag action => .of_reads rfl rfl fun _ => (enum names_releaseAction action).map
  | .setShotBase tag n | .readShot tag n | .deleteShot tag n | .cancelItem tag n =>
      .of_reads rfl rfl fun wf => (num (Bool.and_eq_true_iff.mp wf).2).map
  | .setAf tag a => .of_reads rfl rfl fun wf => (af (Bool.and_eq_true_iff.mp wf).2).map
  | .setLens tag a => .of_reads rfl rfl fun wf => (lens (Bool.and_eq_true_iff.mp wf).2).map
  | .readThumb tag n offset length => .of_reads rfl rfl fun wf => by
      simp only [Instr.wf, Bool.and_eq_true] at wf
      obtain ⟨⟨⟨-, shot⟩, start⟩, size⟩ := wf
      exact (num shot).andThen <| (num start).andThen (num size).map
  | .tagShot tag n urgent picked rating => .of_reads rfl rfl fun wf => by
      simp only [Instr.wf, Bool.and_eq_true] at wf
      obtain ⟨⟨-, shot⟩, rated⟩ := wf
      exact (num shot).andThen <| (enum names_tagAction _).andThen <| (enum names_tagAction _).andThen (optional rated).map
  | .hold tag n k | .unhold tag n k | .recall tag n k =>
      .of_reads rfl rfl fun wf => (num (Bool.and_eq_true_iff.mp wf).2).andThen (enum names_pict k).map
  | .setLook tag slot a => .of_reads rfl rfl fun wf => by
      simp only [Instr.wf, Bool.and_eq_true] at wf
      obtain ⟨⟨-, index⟩, fields⟩ := wf
      exact (num index).andThen (look fields).map
  | .setCurve tag slot points => .of_reads rfl rfl fun wf => by
      simp only [Instr.wf, Bool.and_eq_true, beq_iff_eq, List.all_eq_true] at wf
      obtain ⟨⟨⟨-, index⟩, length⟩, each⟩ := wf
      exact (num index).andThen (list (by omega) fun p h => num (each p h)).map
  | .setCardMode tag mode content => .of_reads rfl rfl fun _ => (enum names_cardMode mode).andThen (enum names_cardContent content).map
  | .grantWindow tag slot mount start length => .of_reads rfl rfl fun wf => by
      simp only [Instr.wf, Bool.and_eq_true] at wf
      obtain ⟨⟨⟨-, number⟩, first⟩, blocks⟩ := wf
      exact (enum names_slot slot).andThen <| (num number).andThen <| (num first).andThen (num blocks).map
  | .setTether tag a => .of_reads rfl rfl fun wf => (tether (Bool.and_eq_true_iff.mp wf).2).map
  | .setSendRule tag index a => .of_reads rfl rfl fun wf => by
      simp only [Instr.wf, Bool.and_eq_true] at wf
      obtain ⟨⟨-, place⟩, fields⟩ := wf
      exact (num place).andThen (rule fields).map
  | .enqueue tag n k priority deadline policy => .of_reads rfl rfl fun wf => by
      simp only [Instr.wf, Bool.and_eq_true] at wf
      obtain ⟨⟨⟨-, shot⟩, rank⟩, due⟩ := wf
      exact (num shot).andThen <| (enum names_pict k).andThen <| (num rank).andThen <| (optional due).andThen
        (enum names_policy policy).map
  | .answerPull tag pull answer priority => .of_reads rfl rfl fun wf => by
      simp only [Instr.wf, Bool.and_eq_true] at wf
      obtain ⟨⟨-, id⟩, rank⟩ := wf
      exact (num id).andThen <| (enum names_pullAnswer answer).andThen (num rank).map
  | .chipSelectFall | .chipSelectRise | .lengthOversize _ | .frameComplete _ | .replyRead _ | .resetPendingTimeout _
  | .pinReset _ | .brownoutHold | .powerLoss | .supplyRecovered _ | .supplyReading _ | .wakeEnd | .settingsWriteEnd _
  | .warmupEnd | .liveFrame _ | .lineLevelChange .. | .debounceRecognized _ | .flashReadyChange _ | .flashWaitExpiry
  | .flashPulseStart | .flashPulseEnd | .frameOpportunity | .exposureEnd | .obRowsEnd _ | .readoutEnd ..
  | .lensMoving | .lensSettled _ | .lensAnswerTimeout | .lostTimerExpiry | .focusWaitExpiry | .inFocusAgeExpiry
  | .thumbPassEnd | .renderPassEnd | .cardInserted _ | .mountComplete .. | .mountFailed _ | .mountTimeout _
  | .cardRemoved _ | .extentWriteEnd .. | .extentReadEnd .. | .carrierUp | .carrierDown | .relayFrameBad _
  | .relayFrameDisregarded _ | .acceptReceived .. | .refuseReceived .. | .ackReceived .. | .nakReceived ..
  | .beaconReceived .. | .pullReceived .. | .beaconLoss | .offerTimeout | .ackTimeout | .portFree
  | .deadlineExpiry _ | .syncByte => .of_event rfl

theorem decodeCommand_of_reads {kind tag : Nat} {body : List Byte} {f : Field Instr} {c : Instr}
    (field : commandField tag kind = some f) (reads : Reads f body c) : decodeCommand kind tag body = .command c := by
  have used : f body = some (c, []) := List.append_nil body ▸ reads []
  simp only [decodeCommand, field, used]

/-- Settles O13: the KIND's fields read the whole BODY. -/
theorem decodeReadsTheEncodedCommand : Obligations.DecodeReadsTheEncodedCommand := by
  intro c p wf parts
  obtain ⟨f, field, reads⟩ := readsBack c wf p parts
  exact decodeCommand_of_reads field reads

end Sys2Proof.Machine.CommandLink
end

section
/-! PROOFS. Frames that complete: those of the host's commands, and those that are judged bad (Chapter 10). -/

namespace Sys2Proof.Machine.CommandLink
open Sys2Proof LensDrive EveryRow StoredSettings

/-! ### A command's frame, from the first LENGTH byte through CHECK (R220, R233) -/

/-- What a frame's check stands over (R220, R233). -/
def checkedBytes (kind tag : Nat) (body : List Byte) : List Byte := le 2 body.length ++ le 1 kind ++ le 1 tag ++ body

theorem frameBytes_eq (kind tag : Nat) (body : List Byte) :
    frameBytes kind tag body = checkedBytes kind tag body ++ le 2 (crc16 (checkedBytes kind tag body)).toNat := rfl

theorem checkedBytes_length (kind tag : Nat) (body : List Byte) : (checkedBytes kind tag body).length = body.length + 4 := by
  simp only [checkedBytes, List.length_append, Laws.le_length]; omega

theorem frameBytes_length (kind tag : Nat) (body : List Byte) : (frameBytes kind tag body).length = body.length + 6 := by
  rw [frameBytes_eq, List.length_append, checkedBytes_length, Laws.le_length]

theorem checkMatches_frameBytes (kind tag : Nat) (body : List Byte) : checkMatches (frameBytes kind tag body) = true := by
  have checked : (checkedBytes kind tag body).length = (frameBytes kind tag body).length - 2 := by
    rw [frameBytes_length, checkedBytes_length]; rfl
  rw [checkMatches, beq_iff_eq, ← checked, frameBytes_eq, List.take_left, List.drop_left]

section
variable {kind tag : Nat} {body : List Byte} (short : body.length ≤ 4096)
include short

theorem frameLength_frameBytes : frameLength (frameBytes kind tag body) = body.length := by
  have small : body.length < 256 ^ 2 := by omega
  rw [frameLength, frameBytes_eq, checkedBytes, List.append_assoc, List.append_assoc, List.append_assoc,
    List.take_left' (Laws.le_length ..), Reads.leNat_le, Nat.mod_eq_of_lt small]

theorem wholeFrame_frameBytes : wholeFrame (frameBytes kind tag body) = true := by
  rw [wholeFrame, frameLength_frameBytes short, frameBytes_length]
  exact Bool.and_eq_true_iff.mpr ⟨decide_eq_true short, beq_self_eq_true _⟩

theorem frameParts_frameBytes (hk : kind < 256) (ht : tag < 256) : frameParts (frameBytes kind tag body) = (kind, tag, body) := by
  rw [frameParts, frameLength_frameBytes short]
  simp only [frameBytes, le, List.cons_append, List.nil_append, List.drop_succ_cons, List.drop_zero, List.take_succ_cons,
    List.take_zero, List.take_left, leNat, BitVec.toNat_ofNat]
  rw [Nat.mod_eq_of_lt hk, Nat.mod_eq_of_lt ht]; rfl

/-- A frame of the host that completes is judged by its KIND, TAG and BODY. -/
theorem exec_frameBytes {s : State} (running : s.held = false) (frame : s.link.assembler = .frame) (hk : kind < 256) (ht : tag < 256) :
    exec (.frameComplete (frameBytes kind tag body)) s = (s.setLink { s.link with assembler := .hunt }).takeFrame kind tag body := by
  have complete : (!s.held && s.link.assembler == .frame && wholeFrame (frameBytes kind tag body)) = true := by
    rw [running, frame, wholeFrame_frameBytes short]; rfl
  refine (if_pos complete).trans ((if_pos (checkMatches_frameBytes kind tag body)).trans ?_)
  rw [frameParts_frameBytes short hk ht]
end

open Laws in
/-- A well-formed command's frame fits the link, row by row; an event has none. -/
theorem fitsFrame : ∀ c, FitsFrame.Statement c
  | .identify t => FitsFrame.identify t
  | .getStatus t ps => FitsFrame.getStatus t ps
  | .readReports t n l => FitsFrame.readReports t n l
  | .setRoutes t ps => FitsFrame.setRoutes t ps
  | .reset t => FitsFrame.reset t
  | .setTime t v => FitsFrame.setTime t v
  | .setPower t p => FitsFrame.setPower t p
  | .setThresholds t l c => FitsFrame.setThresholds t l c
  | .saveSettings t => FitsFrame.saveSettings t
  | .setCapture t a => FitsFrame.setCapture t a
  | .setSync t a => FitsFrame.setSync t a
  | .release t a => FitsFrame.release t a
  | .setShotBase t n => FitsFrame.setShotBase t n
  | .setAf t a => FitsFrame.setAf t a
  | .setLens t a => FitsFrame.setLens t a
  | .listShots t a n => FitsFrame.listShots t a n
  | .readShot t n => FitsFrame.readShot t n
  | .readThumb t n o l => FitsFrame.readThumb t n o l
  | .tagShot t n u p r => FitsFrame.tagShot t n u p r
  | .hold t n k => FitsFrame.hold t n k
  | .unhold t n k => FitsFrame.unhold t n k
  | .deleteShot t n => FitsFrame.deleteShot t n
  | .readCardIndex t p n => FitsFrame.readCardIndex t p n
  | .setLook t sl a => FitsFrame.setLook t sl a
  | .setCurve t sl ps => FitsFrame.setCurve t sl ps
  | .develop t n l => FitsFrame.develop t n l
  | .setCardMode t m c => FitsFrame.setCardMode t m c
  | .grantWindow t sl m a l => FitsFrame.grantWindow t sl m a l
  | .recall t n k => FitsFrame.recall t n k
  | .setTether t a => FitsFrame.setTether t a
  | .setSendRule t i a => FitsFrame.setSendRule t i a
  | .enqueue t n k p d e => FitsFrame.enqueue t n k p d e
  | .cancelItem t m => FitsFrame.cancelItem t m
  | .readQueue t p n => FitsFrame.readQueue t p n
  | .answerPull t p a r => FitsFrame.answerPull t p a r
  | .rejoin t => FitsFrame.rejoin t
  | .chipSelectFall | .chipSelectRise | .lengthOversize _ | .frameComplete _ | .replyRead _ | .resetPendingTimeout _
  | .pinReset _ | .brownoutHold | .powerLoss | .supplyRecovered _ | .supplyReading _ | .wakeEnd | .settingsWriteEnd _
  | .warmupEnd | .liveFrame _ | .lineLevelChange .. | .debounceRecognized _ | .flashReadyChange _ | .flashWaitExpiry
  | .flashPulseStart | .flashPulseEnd | .frameOpportunity | .exposureEnd | .obRowsEnd _ | .readoutEnd ..
  | .lensMoving | .lensSettled _ | .lensAnswerTimeout | .lostTimerExpiry | .focusWaitExpiry | .inFocusAgeExpiry
  | .thumbPassEnd | .renderPassEnd | .cardInserted _ | .mountComplete .. | .mountFailed _ | .mountTimeout _
  | .cardRemoved _ | .extentWriteEnd .. | .extentReadEnd .. | .carrierUp | .carrierDown | .relayFrameBad _
  | .relayFrameDisregarded _ | .acceptReceived .. | .refuseReceived .. | .ackReceived .. | .nakReceived ..
  | .beaconReceived .. | .pullReceived .. | .beaconLoss | .offerTimeout | .ackTimeout | .portFree
  | .deadlineExpiry _ | .syncByte => FitsFrame.of_event rfl

/-! ### A frame judged (R219, R220, R221) -/

theorem takeFrame_of_command {kind tag : Nat} {body : List Byte} {c : Instr} (read : decodeCommand kind tag body = .command c)
    (command : (Command.parts c).isSome) (s : State) : s.takeFrame kind tag body = exec c s := by
  simp only [State.takeFrame, read, runCommand_eq, command, if_true]

/-- Settles O14: the frame's parts decode to the command, which runs with the assembler in HUNT. -/
theorem completedFrameRunsItsCommand : Obligations.CompletedFrameRunsItsCommand := by
  intro c bytes s wf framed running frame
  obtain ⟨⟨kind, tag, body⟩, parts, rfl⟩ := Option.map_eq_some_iff.mp framed
  obtain ⟨hk, ht, short⟩ := fitsFrame c wf _ parts
  obtain ⟨t, done, -⟩ := everyCommandAnswersANextState c (s.setLink { s.link with assembler := .hunt })
  refine ⟨t, done, ?_⟩
  rw [exec_frameBytes short running frame (Nat.lt_trans hk (by decide)) ht,
    takeFrame_of_command (decodeReadsTheEncodedCommand c _ wf parts) (Option.isSome_of_eq_some parts)]
  exact done

theorem exec_frameComplete {s : State} {bytes : List Byte} (running : s.held = false) (frame : s.link.assembler = .frame)
    (whole : wholeFrame bytes = true) : exec (.frameComplete bytes) s = s.completeFrame bytes :=
  if_pos (by rw [running, frame, whole]; rfl)

theorem completeFrame_of_wrongCheck {bytes : List Byte} (wrong : checkMatches bytes = false) (s : State) :
    s.completeFrame bytes = .next (s.setLink ({ s.link with assembler := .hunt }.fail .check)) :=
  if_neg (by simp [wrong])

/-- A KIND of a byte with its highest bit set. -/
theorem badKindReply_eq {kind : Nat} (hk : kind < 256) : badKindReply kind = kind ||| 128 := by
  have sets {n : Nat} (low : n < 128) : 128 + n = 128 ||| n := Nat.two_pow_add_eq_or_of_lt (i := 7) low 1
  unfold badKindReply
  split
  next low => rw [Nat.add_comm, sets low, Nat.or_comm]
  next high =>
    obtain ⟨n, rfl⟩ := Nat.exists_eq_add_of_le (Nat.not_lt.mp high)
    rw [sets (by omega), Nat.or_assoc, Nat.or_comm n, ← Nat.or_assoc, Nat.or_self]

theorem commandField_of_high {kind : Nat} (high : 128 ≤ kind) (tag : Nat) : commandField tag kind = none := by
  unfold commandField
  split
  case h_37 => rfl
  all_goals omega

theorem replyKind_of_badLength {kind tag : Nat} {body : List Byte} (read : decodeCommand kind tag body = .badLength) :
    replyKind kind = kind ||| 128 := by
  have low : kind < 128 := Nat.lt_of_not_le fun high => by
    simp [decodeCommand, commandField_of_high high] at read
  rw [← badKindReply_eq (Nat.lt_trans low (by decide))]; exact (if_pos low).symm

theorem takeFrame_of_badKind {s : State} (h : s.Takes) {kind tag : Nat} {body : List Byte} (hk : kind < 256)
    (read : decodeCommand kind tag body = .badKind) :
    s.takeFrame kind tag body = .next (s.pushReply (kind ||| 128) tag .badKind []) := by
  simp [State.takeFrame, read, deaf_of_takes h, badKindReply_eq hk]

theorem takeFrame_of_badLength {s : State} (h : s.Takes) {kind tag : Nat} {body : List Byte}
    (read : decodeCommand kind tag body = .badLength) :
    s.takeFrame kind tag body = .next (s.pushReply (kind ||| 128) tag .badLength []) := by
  simp [State.takeFrame, read, deaf_of_takes h, replyKind_of_badLength read]

theorem Takes.hunts {s : State} (h : s.Takes) : (s.setLink { s.link with assembler := .hunt }).Takes :=
  ⟨h.running, h.noReset, h.room⟩

/-- Settles O15: a wrong check, then the two refusals of a frame that decodes to no command. -/
theorem badFramesAreJudged : Obligations.BadFramesAreJudged := by
  refine ⟨fun bytes s running frame short whole wrong => ?check, fun kind tag body s hk ht short takes frame read => ?kind,
    fun kind tag body s hk ht short takes frame read => ?length⟩
  case check =>
    have whole : wholeFrame bytes = true := Bool.and_eq_true_iff.mpr ⟨decide_eq_true short, beq_iff_eq.mpr whole⟩
    rw [exec_frameComplete running frame whole, completeFrame_of_wrongCheck (beq_eq_false_iff_ne.mpr wrong)]; rfl
  case kind => rw [exec_frameBytes short takes.running frame hk ht, takeFrame_of_badKind (Takes.hunts takes) hk read]; rfl
  case length => rw [exec_frameBytes short takes.running frame hk ht, takeFrame_of_badLength (Takes.hunts takes) read]; rfl

end Sys2Proof.Machine.CommandLink
end

section
/-! PROOFS. What the blocks do to the queues of the link within a step: they raise reports, and the replies stay as they
are (R222, R225). -/

namespace Sys2Proof.Machine
open Sys2Proof

/-- What blocks do to the link within a step is to raise reports: the replies stay as they are, and the queues and counts
within their sizes. -/
structure State.Reports (r s : State) : Prop where
  replies : s.link.replies = r.link.replies
  bounded : r.link.Bounded → s.link.Bounded

namespace State.Reports

theorem refl (s : State) : s.Reports s := ⟨rfl, id⟩

theorem foldl {α : Type} {r s : State} (l : List α) (f : State → α → State) (h : r.Reports s)
    (hf : ∀ t x, r.Reports t → r.Reports (f t x)) : r.Reports (l.foldl f s) := by
  induction l generalizing s with
  | nil => exact h
  | cons x l ih => exact ih (hf s x h)

section
variable {r s : State} (h : r.Reports s)
include h

/-- One more function that leaves the link alone. -/
theorem same {t : State} (e : t.link = s.link) : r.Reports t := ⟨e ▸ h.replies, fun x => e ▸ h.bounded x⟩

theorem raise (k : ReportKind) (fs : List Byte) : r.Reports (s.raise k fs) := by
  unfold State.raise; split
  · exact h
  · exact ⟨(Link.take_host ..).1.trans h.replies, fun x => Link.take_bounded (h.bounded x) ..⟩

/-- One of two outcomes. -/
theorem either {t : State} (c : Prop) [Decidable c] (h' : r.Reports t) : r.Reports (if c then s else t) := by
  split
  · exact h
  · exact h'

theorem setNotices (n : List Notice) : r.Reports (s.setNotices n) := h.same rfl
theorem setSup (u : Sup) : r.Reports (s.setSup u) := h.same rfl
theorem setCap (c : Cap) : r.Reports (s.setCap c) := h.same rfl
theorem setFoc (f : Foc) : r.Reports (s.setFoc f) := h.same rfl
theorem setSbm (b : Sbm) : r.Reports (s.setSbm b) := h.same rfl
theorem setDev (d : Dev) : r.Reports (s.setDev d) := h.same rfl
theorem setCrd (c : Crd) : r.Reports (s.setCrd c) := h.same rfl
theorem setTet (t : Tet) : r.Reports (s.setTet t) := h.same rfl
theorem setSettings (g : Settings) : r.Reports (s.setSettings g) := h.same rfl
theorem setSlot (sl : Slot) (c : CardSlot) : r.Reports (s.setSlot sl c) := h.same rfl
theorem notify (n : Notice) : r.Reports (s.notify n) := h.same (notify_link ..)
theorem announceSpace : r.Reports s.announceSpace := h.same (announceSpace_link s)
theorem announceRetirement : r.Reports s.announceRetirement := h.same (announceRetirement_link s)
theorem mapShot (i : Nat) (f : Shot → Shot) : r.Reports (s.mapShot i f) := h.same (mapShot_link ..)
theorem mapObj (i : Nat) (k : Pict) (f : Obj → Obj) : r.Reports (s.mapObj i k f) := h.same (mapObj_link ..)
theorem place (i : Nat) (k : Pict) (hd : Hold) : r.Reports (s.place i k hd) := h.same (place_link ..)

theorem setCardStatus (i : Nat) (k : Pict) (sl : Slot) (v : CardStatus) : r.Reports (s.setCardStatus i k sl v) :=
  h.same (setCardStatus_link ..)

theorem removeObj (i : Nat) (k : Pict) : r.Reports (s.removeObj i k) := h.same (removeObj_link ..)

theorem checkRetire (i : Nat) : r.Reports (s.checkRetire i) := by
  unfold State.checkRetire
  split
  · exact h
  split
  · exact h
  split
  · exact ((h.setSbm _).raise _ _).announceRetirement
  · exact h

theorem checkRetireShot (n : Nat) : r.Reports (s.checkRetireShot n) := by
  unfold State.checkRetireShot
  split
  · exact h
  · exact h.checkRetire _

theorem setHolds (i : Nat) (k : Pict) (f : HoldSet → HoldSet) : r.Reports (s.setHolds i k f) := by
  unfold State.setHolds
  split
  · exact h
  split
  · exact (h.removeObj _ _).checkRetire _
  · exact h.mapObj _ _ _

/-! ### Jobs of DEV (R106 to R112) -/

theorem placeDevelop (i : Nat) : r.Reports (s.placeDevelop i) := by
  unfold State.placeDevelop
  split
  · exact h.place _ _ _
  · exact h

theorem addJob (j : Job) : r.Reports (s.addJob j) := by
  unfold State.addJob; dsimp only
  refine .notify ?_ _
  split
  · exact (h.setDev _).placeDevelop _
  · exact h.setDev _

theorem requestJob (i : Nat) (k : Pict) (look : JobLook) : r.Reports (s.requestJob i k look).1 := by
  unfold State.requestJob; dsimp only
  split
  · exact h
  split
  · exact h
  split
  · exact h.addJob _
  · exact h

theorem jobsGone (n : Nat) : r.Reports (s.jobsGone n) := by
  unfold State.jobsGone
  split
  · exact h
  split
  · exact h
  · exact (h.setHolds _ _ _).checkRetire _

theorem dropJobs (p : Job → Bool) (n : Nat) : r.Reports (s.dropJobs p n) := (h.setDev _).jobsGone _

theorem dropOrphanJobs (n : Nat) : r.Reports (s.dropOrphanJobs n) := by
  unfold State.dropOrphanJobs
  split
  · exact h
  · exact h.dropJobs _ _

/-- Extents given to an object: the link is not touched (R2, R7). -/
theorem reserve {t : State} {i : Nat} {k : Pict} {size : Nat} {p : Producer} {sc : Option Scale} {ring : Bool} {d : PictData}
    (ht : s.reserve i k size p sc ring d = some t) : r.Reports t := by
  unfold State.reserve at ht; dsimp only at ht
  split at ht
  · exact Option.some.inj ht ▸ (h.setSbm _).mapShot _ _
  · cases ht

/-- What is attempted where there is room, or the state as it was. -/
theorem orElse {o : Option State} (ho : ∀ t, o = some t → r.Reports t) : r.Reports (o.getD s) := by
  cases e : o with
  | none => exact h
  | some t => exact ho t e

theorem takeRendition (sh : Shot) (j : Job) : r.Reports (s.takeRendition sh j) := by
  unfold State.takeRendition; dsimp only
  split
  · exact h.setDev _
  · exact (((h.reserve ‹_›).mapShot _ _).mapShot _ _).setDev _

theorem engineLook : r.Reports s.engineLook := by
  unfold State.engineLook
  split
  · exact h
  · exact h
  all_goals
    split
    · exact h
    split
    · exact h.setDev _
    split
    · exact h
    split
    · exact (h.mapShot _ _).setDev _
    · exact h.takeRendition _ _

theorem lookIf (event : Bool) : r.Reports (s.lookIf event) := by
  unfold State.lookIf
  split
  · exact h.notify _
  · exact h

theorem moveUrgent (n : Nat) (urgent : Bool) : r.Reports (s.moveUrgent n urgent) := by
  unfold State.moveUrgent; dsimp only
  split
  · exact h
  split
  · exact h
  · exact (h.setDev _).notify _

/-! ### Write jobs (R137, R144, R145) -/

theorem tryStart (sl : Slot) : r.Reports (s.tryStart sl) := by
  unfold State.tryStart; dsimp only
  split
  · exact h
  split
  · exact h
  split
  all_goals
    split
    · exact (h.setSlot _ _).setCardStatus _ _ _ _
    · exact (h.setSlot _ _).raise _ _

theorem joinQueue (sl : Slot) (j : WriteJob) (try' : State → State) (ht : ∀ t, r.Reports t → r.Reports (try' t)) :
    r.Reports (s.joinQueue sl j try') := by
  unfold State.joinQueue; dsimp only
  split
  · exact ht _ (h.setSlot _ _)
  · exact h.setSlot _ _

theorem moveJob (left : CardStatus) (j : WriteJob) : r.Reports (s.moveJob left j) := by
  unfold State.moveJob; dsimp only
  split
  · exact (h.setCardStatus _ _ _ _).mapObj _ _ _
  · exact (((h.setCardStatus _ _ _ _).mapObj _ _ _).setCardStatus _ _ _ _).joinQueue _ _ _ fun _ ht => ht.tryStart _

theorem moveQueue : r.Reports s.moveQueue := foldl _ _ (h.setSlot _ _) fun _ _ ht => ht.moveJob _ _

theorem tryHead (sl : Slot) : r.Reports (s.tryHead sl) := by
  unfold State.tryHead; dsimp only
  split
  · exact (h.tryStart _).moveQueue
  · exact h.tryStart _

theorem enqueueJob (i : Nat) (k : Pict) (sl : Slot) : r.Reports (s.enqueueJob i k sl) := by
  unfold State.enqueueJob; dsimp only
  split
  · exact ((h.setCardStatus _ _ _ _).mapObj _ _ _).joinQueue _ _ _ fun _ ht => ht.tryHead _
  · exact h

theorem enqueueOn (i : Nat) (k : Pict) (ts : List Slot) : r.Reports (s.enqueueOn i k ts) :=
  foldl _ _ h fun _ _ ht => ht.enqueueJob _ _ _

theorem cardJobs (i : Nat) (k : Pict) : r.Reports (s.cardJobs i k) := by
  unfold State.cardJobs
  split
  · exact h.place _ _ _
  · exact h.enqueueOn _ _ _

theorem sweep : r.Reports s.sweep := foldl _ _ h fun _ _ ht => ht.enqueueOn _ _ _

theorem endCardJob (i : Nat) (k : Pict) (sl : Slot) (st : CardStatus) : r.Reports (s.endCardJob i k sl st) := by
  unfold State.endCardJob; dsimp only
  split
  · exact (h.setCardStatus _ _ _ _).setHolds _ _ _
  · exact h.setCardStatus _ _ _ _

/-! ### Recalls asked for and gone (R150) -/

theorem requestRecall (n : Nat) (k : Pict) (host : Bool) (item : Option Nat) :
    r.Reports (s.requestRecall n k host item).1 := by
  unfold State.requestRecall; dsimp only
  split
  · exact h
  split
  · exact h
  split
  · exact h.setSlot _ _
  split
  · exact h.setSlot _ _
  split
  · exact h
  split
  · exact h
  split
  · exact h
  · exact (h.setSlot _ _).notify _

theorem recallGone (n : Nat) (k : Pict) : r.Reports (s.recallGone n k) := by
  unfold State.recallGone
  refine .checkRetireShot ?_ _
  split
  · exact h.dropOrphanJobs _
  · exact h

theorem withdrawIn (m : Nat) (sl : Slot) : r.Reports (s.withdrawIn m sl) := by
  unfold State.withdrawIn; dsimp only
  split
  · exact h.setSlot _ _
  · exact foldl _ _ ((h.setSlot _ _).notify _) fun _ _ ht => ht.recallGone _ _

/-! ### The tether link (R161 to R168) -/

theorem pushTx (f : RelayFrame) : r.Reports (s.pushTx f) := by
  unfold State.pushTx; dsimp only
  split
  · exact h
  · exact h.setTet _

theorem returnTransfer (cancel : Bool) : r.Reports (s.returnTransfer cancel) := by
  unfold State.returnTransfer; dsimp only
  split
  · exact h
  refine .notify ?_ _
  split
  · exact (h.setTet _).pushTx _
  · exact h.setTet _

theorem cancelTransfer : r.Reports s.cancelTransfer := by
  unfold State.cancelTransfer; dsimp only
  split
  · exact h
  · exact ((h.setTet _).pushTx _).notify _

theorem enterLink (new : LinkState) (cause : LinkCause) : r.Reports (s.enterLink new cause) := by
  unfold State.enterLink; dsimp only
  refine .notify ?_ _
  refine .raise ?_ _ _
  split
  · exact ((h.setTet _).setTet _).returnTransfer _
  · exact h.setTet _

theorem judgeLink (cause : LinkCause) : r.Reports (s.judgeLink cause) := by
  unfold State.judgeLink
  split
  · split
    · exact h
    · exact h.enterLink _ _
  · exact h

theorem raiseTec : r.Reports s.raiseTec := (h.setTet _).judgeLink _
theorem badFrame : r.Reports s.badFrame := (h.setTet _).judgeLink _

/-! ### Tether items (R182 to R189) -/

theorem decline (item : Option Nat) (n : Nat) (k : Pict) (origin : Origin) (rule transfer : Option Nat) (reason : DeclineReason) :
    r.Reports (s.decline item n k origin rule transfer reason) :=
  (h.setTet _).raise _ _

theorem placeTether (n : Nat) (k : Pict) : r.Reports (s.placeTether n k) := by
  unfold State.placeTether
  split
  · exact h
  · exact h.place _ _ _

theorem itemReady (n : Nat) (k : Pict) : r.Reports (s.itemReady n k) := ((h.placeTether _ _).notify _).notify _

theorem itemGone (x : Item) : r.Reports (s.itemGone x) := by
  unfold State.itemGone; dsimp only
  refine .checkRetireShot ?_ _
  refine .withdrawIn ?_ _ _
  refine .withdrawIn ?_ _ _
  split
  · exact h
  · exact h.setHolds _ _ _

theorem removeItem (x : Item) : r.Reports (s.removeItem x) := by
  unfold State.removeItem; dsimp only
  refine .itemGone ?_ _
  split
  · exact (h.setTet _).cancelTransfer
  · exact h.setTet _

theorem notifyExpired (m : Nat) (deadline : Option Nat) : r.Reports (s.notifyExpired m deadline) := by
  unfold State.notifyExpired
  split
  · exact h.notify _
  · exact h

theorem makeItem (n : Nat) (k : Pict) (priority : Nat) (deadline : Option Nat) (policy : Policy) (origin : Origin)
    (st : ItemState) : r.Reports (s.makeItem n k priority deadline policy origin st) := by
  unfold State.makeItem; dsimp only
  split
  · exact ((h.setTet _).notifyExpired _ _).itemReady _ _
  · exact (h.setTet _).notifyExpired _ _

theorem judgeRise (old new : Nat) (waiting : Bool) : r.Reports (s.judgeRise old new waiting) := by
  unfold State.judgeRise
  split
  · exact h.notify _
  · exact h

theorem mergeItem (x : Item) (priority : Nat) (deadline : Option Nat) (policy : Policy) :
    r.Reports (s.mergeItem x priority deadline policy) :=
  ((h.setTet _).notifyExpired _ _).judgeRise _ _ _

theorem raiseItems (n : Nat) : r.Reports (s.raiseItems n) := by
  unfold State.raiseItems; dsimp only
  split
  · exact (h.setTet _).notify _
  · exact h.setTet _

theorem recallToDevelop (i n : Nat) (sh : Shot) (m : Nat) : r.Reports (s.recallToDevelop i n sh m).1 := by
  unfold State.recallToDevelop; dsimp only
  split
  · exact (h.requestRecall _ _ _ _).requestJob _ _ _
  · exact (h.requestRecall _ _ _ _).requestJob _ _ _
  · exact h.requestRecall _ _ _ _

theorem findRendition (i n : Nat) (sh : Shot) (m : Nat) : r.Reports (s.findRendition i n sh m).1 := by
  unfold State.findRendition
  split
  · exact h.requestRecall _ _ _ _
  split
  · exact h.recallToDevelop _ _ _ _
  · exact h

theorem findCommitted (i n : Nat) (sh : Shot) (k : Pict) (m : Nat) : r.Reports (s.findCommitted i n sh k m).1 := by
  unfold State.findCommitted; dsimp only
  split
  · split
    · exact h
    split <;> exact h.requestJob _ _ _
  · split
    · exact h
    split
    · split
      · exact h.requestJob _ _ _
      · exact h.requestJob _ _ _
      all_goals exact (h.requestJob _ _ _).findRendition _ _ _ _
    · exact h.findRendition _ _ _ _
  split
  · exact h
  · exact h.requestRecall _ _ _ _

theorem findPicture (n : Nat) (k : Pict) (m : Nat) : r.Reports (s.findPicture n k m).1 := by
  unfold State.findPicture
  split
  · exact h.findCommitted _ _ _ _ _
  split
  · exact h
  · split
    · exact h.requestRecall _ _ _ _
    · exact h
  split
  · exact h.requestRecall _ _ _ _
  · exact h

theorem requestItem (n : Nat) (k : Pict) (priority : Nat) (deadline : Option Nat) (policy : Policy) (origin : Origin) :
    r.Reports (s.requestItem n k priority deadline policy origin).1 := by
  unfold State.requestItem; dsimp only
  split
  · exact h
  split
  · exact h.mergeItem _ _ _ _
  split
  · exact h
  split
  · exact h.findPicture _ _ _
  · exact (h.findPicture _ _ _).makeItem _ _ _ _ _ _ _

theorem itemsReady (n : Nat) (k : Pict) : r.Reports (s.itemsReady n k) := by
  unfold State.itemsReady; dsimp only
  split
  · exact (h.setTet _).itemReady _ _
  · exact h

theorem relookItem (x : Item) : r.Reports (s.relookItem x) := by
  unfold State.relookItem; dsimp only
  split
  · exact ((h.findPicture _ _ _).decline _ _ _ _ _ _ _).removeItem _
  split
  · exact ((h.findPicture _ _ _).setTet _).itemReady _ _
  · exact (h.findPicture _ _ _).setTet _

theorem relookItems (n : Nat) (k : Pict) : r.Reports (s.relookItems n k) := foldl _ _ h fun _ _ ht => ht.relookItem _

theorem failItem (m : Nat) : r.Reports (s.failItem m) := by
  unfold State.failItem
  split
  · exact h
  split
  · exact (h.decline _ _ _ _ _ _ _).removeItem _
  · exact h

theorem startTransfer (x : Item) : r.Reports (s.startTransfer x) := (((h.setTet _).setTet _).pushTx _).notify _

theorem linkAsk : r.Reports s.linkAsk := by
  unfold State.linkAsk
  split
  · split
    · exact h
    · exact h.startTransfer _
  · exact h

theorem preempt : r.Reports s.preempt := by
  unfold State.preempt
  split
  · exact h
  split
  · exact h.returnTransfer _
  · exact h

theorem expireItem (m : Nat) : r.Reports (s.expireItem m) := by
  unfold State.expireItem; dsimp only
  split
  · exact h
  split
  · exact h
  split
  · exact h
  split
  · split
    · exact h
    · exact (h.setTet _).raise _ _
  · exact ((h.setTet _).raise _ _).removeItem _

theorem expirePassed : r.Reports s.expirePassed := foldl _ _ h fun _ _ ht => ht.expireItem _

theorem tellRule (n : Nat) (k : Pict) (index : Nat) (o : ItemOutcome) : r.Reports (s.tellRule n k index o) := by
  unfold State.tellRule; dsimp only
  split
  · exact h
  · exact h
  · exact h
  · exact h
  · exact h
  · exact h.decline _ _ _ _ _ _ _
  · exact h.decline _ _ _ _ _ _ _
  · exact h.decline _ _ _ _ _ _ _
  · exact (h.setTet _).raise _ _

theorem evaluateRule (i index : Nat) (x : SendRule) (which : RuleMatch → Bool) :
    r.Reports (s.evaluateRule i index x which) := by
  unfold State.evaluateRule
  split
  · exact h
  split
  · exact h
  split
  · exact (h.requestItem _ _ _ _ _ _).tellRule _ _ _ _
  · exact h

theorem evaluateRules (i : Nat) (which : RuleMatch → Bool) : r.Reports (s.evaluateRules i which) :=
  (h.evaluateRule _ _ _ _).evaluateRule _ _ _ _

/-! ### The carrier, the beacons and the station's frames (R158 to R175, R200) -/

theorem carrierUp : r.Reports s.carrierUp := by
  unfold State.carrierUp; dsimp only
  split
  · exact h
  · exact (h.setTet _).enterLink _ _

theorem carrierDown : r.Reports s.carrierDown := by
  unfold State.carrierDown; dsimp only
  split
  · exact ((h.returnTransfer _).setTet _).enterLink _ _
  · exact h

theorem loseBeacons : r.Reports s.loseBeacons := by
  unfold State.loseBeacons; dsimp only
  split
  · exact ((h.setTet _).returnTransfer _).enterLink _ _
  · exact h

theorem countBeacon (inSeq : Bool) : r.Reports (s.countBeacon inSeq) := by
  unfold State.countBeacon; dsimp only
  split
  · split
    · exact (h.setTet _).enterLink _ _
    · exact h.setTet _
  split
  · exact (h.setTet _).enterLink _ _
  · exact h.setTet _

theorem takeBeacon (counter : Nat) (status : StationStatus) : r.Reports (s.takeBeacon counter status) := by
  unfold State.takeBeacon; dsimp only
  split
  · split
    · refine .countBeacon ?_ _
      split
      · exact h.setTet _
      · exact ((h.setTet _).raise _ _).notify _
    split
    · exact h.setTet _
    · exact ((h.setTet _).raise _ _).notify _
  · exact (h.setTet _).enterLink _ _

theorem rejoinLink : r.Reports s.rejoinLink := by
  unfold State.rejoinLink; dsimp only
  split
  · split
    · exact (h.setTet _).notify _
    · exact (h.setTet _).enterLink _ _
  · exact h.setTet _

theorem leaveStation : r.Reports s.leaveStation := by
  unfold State.leaveStation; dsimp only
  split
  · exact ((h.returnTransfer _).setTet _).enterLink _ _
  · exact (h.returnTransfer _).setTet _

theorem offerAgain : r.Reports s.offerAgain := by
  unfold State.offerAgain; dsimp only
  split
  · exact h.raiseTec
  · exact (h.raiseTec.setTet _).pushTx _

theorem endTransfer (t : Transfer) : r.Reports (s.endTransfer t) := by
  unfold State.endTransfer; dsimp only
  split
  · exact (h.setTet _).notify _
  · exact ((h.setTet _).notify _).removeItem _

theorem deliver (t : Transfer) (d : Delivery) : r.Reports (s.deliver t d) := ((h.setTet _).raise _ _).endTransfer _

theorem ackTransfer (t : Transfer) (j credit : Nat) : r.Reports (s.ackTransfer t j credit) := by
  unfold State.ackTransfer; dsimp only
  split
  · exact h
  split
  · exact h.setTet _
  split
  · split
    · exact ((h.setTet _).setTet _).judgeLink _
    · exact (((h.setTet _).setTet _).judgeLink _).deliver _ _
  · exact ((h.setTet _).setTet _).judgeLink _

theorem nakTransfer (t : Transfer) (i : Nat) : r.Reports (s.nakTransfer t i) := by
  unfold State.nakTransfer; dsimp only
  split
  · exact h
  · exact h.raiseTec.setTet _

theorem inboxPull (p : Pull) : r.Reports (s.inboxPull p) := by
  unfold State.inboxPull; dsimp only
  split
  · exact h.pushTx _
  · exact (h.setTet _).raise _ _

theorem takePull (id : Nat) (kind : PullKind) (n priority : Nat) : r.Reports (s.takePull id kind n priority) := by
  unfold State.takePull
  split
  · exact h.pushTx _
  split
  · exact h
  split
  · split
    · exact h.pushTx _
    · exact (h.requestItem _ _ _ _ _ _).pushTx _
  · exact h.inboxPull _

theorem takeAccept (id start credit : Nat) : r.Reports (s.takeAccept id start credit) := by
  unfold State.takeAccept
  split
  · exact h
  · exact h.setTet _

theorem takeRefuse (id : Nat) (reason : RefuseReason) : r.Reports (s.takeRefuse id reason) := by
  unfold State.takeRefuse
  split
  · exact h
  split
  · exact h.deliver _ _
  all_goals exact (h.decline _ _ _ _ _ _ _).endTransfer _

theorem takeAck (id j credit : Nat) : r.Reports (s.takeAck id j credit) := by
  unfold State.takeAck
  split
  · exact h
  split
  · exact h
  · exact h.ackTransfer _ _ _

theorem takeNak (id i : Nat) : r.Reports (s.takeNak id i) := by
  unfold State.takeNak
  split
  · exact h
  split
  · exact h
  · exact h.nakTransfer _ _

theorem takeGood (f : StationFrame) : r.Reports (s.takeGood f) := by
  unfold State.takeGood; dsimp only
  split
  · exact ((h.setTet _).judgeLink _).takeAccept _ _ _
  · exact ((h.setTet _).judgeLink _).takeRefuse _ _
  · exact ((h.setTet _).judgeLink _).takeAck _ _ _
  · exact ((h.setTet _).judgeLink _).takeNak _ _
  · exact ((h.setTet _).judgeLink _).takeBeacon _ _
  · exact ((h.setTet _).judgeLink _).takePull _ _ _ _

theorem judgeStation (f : StationFrame) : r.Reports (s.judgeStation f) := by
  unfold State.judgeStation
  split
  · exact h.badFrame
  · exact h.takeGood _

theorem receiveFrame (frame : List Byte) : r.Reports (s.receiveFrame frame) := by
  unfold State.receiveFrame
  split
  · split
    · exact h.badFrame
    · exact h
    · exact h.judgeStation _
  · exact h

theorem receive (f : StationFrame) : r.Reports (s.receive f) := by
  unfold State.receive
  split
  · exact h.judgeStation _
  · exact h

theorem portFree : r.Reports s.portFree := by
  unfold State.portFree; dsimp only
  split
  · exact (h.setTet _).setTet _
  split
  · exact h.setTet _
  split
  · exact (h.setTet _).setTet _
  · exact h.setTet _

/-! ### Recalls served, read and failed (R150 to R153) -/

theorem serveJob (n : Nat) : r.Reports (s.serveJob n) := by
  unfold State.serveJob; dsimp only
  split
  · exact ((h.setDev _).raise _ _).dropJobs _ _
  · exact h

theorem serveRecall (sl : Slot) (x : Recall) (i : Nat) (sh : Shot) (o : Obj) : r.Reports (s.serveRecall sl x i sh o) := by
  have placed := (h.place i x.kind .host).either x.host h
  have told := (placed.itemsReady x.shot x.kind).either o.complete placed
  exact ((told.raise _ _).setSlot _ _).recallGone _ _

theorem reinstate (i n : Nat) (f : ShotFields) : r.Reports (s.reinstate i n f) := h.same rfl

theorem reserveRecall {t : State} {sl : Slot} {x : Recall} {i : Nat} (ht : s.reserveRecall sl x i = some t) :
    r.Reports t := by
  unfold State.reserveRecall at ht
  obtain ⟨s1, e, rfl⟩ := Option.map_eq_some_iff.1 ht
  exact ((h.reserve e).setSlot _ _).lookIf _

theorem askOnce (sl : Slot) (x : Recall) : r.Reports (s.askOnce sl x).1 := by
  unfold State.askOnce
  split
  · split
    · exact h.serveRecall _ _ _ _ _
    · exact h.orElse fun _ => h.reserveRecall
  split
  · exact h
  split
  · exact h.orElse fun _ => (h.reinstate _ _ _).reserveRecall
  · exact h

theorem askHeads (sl : Slot) (fuel : Nat) : r.Reports (s.askHeads sl fuel) := by
  induction fuel generalizing s with
  | zero => exact h
  | succ n ih =>
    unfold State.askHeads; dsimp only
    split
    · exact h
    split
    · split
      · exact ih (h.askOnce _ _)
      · exact h.askOnce _ _
    · exact h

theorem askHead (sl : Slot) : r.Reports (s.askHead sl) := by
  unfold State.askHead
  split
  · exact h
  · exact h.askHeads _ _

theorem recallServe (sl : Slot) : r.Reports (s.recallServe sl) := by
  unfold State.recallServe; dsimp only
  split
  · exact h.setSlot _ _
  · exact h

theorem recallAsk (sl : Slot) : r.Reports (s.recallAsk sl) := (h.askHead _).recallServe _

theorem readEnds (sl : Slot) : r.Reports (s.readEnds sl) := by
  unfold State.readEnds; dsimp only
  split
  · exact ((h.setSlot _ _).askHead _).setSlot _ _
  split
  · exact ((h.setSlot _ _).askHead _).setSlot _ _
  · exact ((h.setSlot _ _).askHead _).tryHead _

/-- A recalled picture serves its job, or the jobs look again (R152). -/
theorem serveRecalled (i n : Nat) (k : Pict) : r.Reports (if k = .rendition && (s.obj i k).isSome then s.serveJob n
    else if k = .raw then s.jobsReady i else s) := by
  split
  · exact h.serveJob _
  split
  · exact h.lookIf _
  · exact h

theorem completeRecalled (i n : Nat) (k : Pict) (host : Bool) : r.Reports (s.completeRecalled i n k host) := by
  unfold State.completeRecalled; dsimp only
  refine .serveRecalled (.setHolds ?_ _ _ _) _ _ _
  split
  · exact ((h.mapObj _ _ _).itemsReady _ _).place _ _ _
  · exact (h.mapObj _ _ _).itemsReady _ _

theorem completeRecall (sl : Slot) (x : Recall) (i : Nat) : r.Reports (s.completeRecall sl x i) :=
  ((((h.completeRecalled _ _ _ _).raise _ _).setSlot _ _).recallGone _ _).readEnds _

theorem abandonRecalled (x : Recall) : r.Reports (s.abandonRecalled x) := by
  unfold State.abandonRecalled
  split
  · exact h
  · exact h.removeObj _ _

theorem failRecall (sl : Slot) (e : RecallReason) (x : Recall) : r.Reports (s.failRecall sl e x) := by
  have failed : r.Reports ((s.unqueueRecall sl x).raise .recallFailed (recallFailedFields x sl e)) := (h.setSlot _ _).raise _ _
  have abandoned := (failed.either (e = .deleted) (foldl x.items State.failItem failed fun _ _ ht => ht.failItem _))
    |>.abandonRecalled x
  have dropped := (abandoned.dropOrphanJobs x.shot).either (x.kind = .raw) abandoned
  exact ((dropped.either (e = .deleted) (dropped.relookItems x.shot x.kind)).checkRetireShot _).notify _

theorem failRecalls (sl : Slot) (e : RecallReason) : r.Reports (s.failRecalls sl e) :=
  foldl _ _ h fun _ _ ht => ht.failRecall _ _ _

theorem extentArrived (sl : Slot) (x : Recall) (i : Nat) (data : List Byte) : r.Reports (s.extentArrived sl x i data) := by
  unfold State.extentArrived; dsimp only
  split
  · exact (h.mapObj _ _ _).setSlot _ _
  · exact ((h.mapObj _ _ _).setSlot _ _).completeRecall _ _ _

theorem extentRead (sl : Slot) (success : Bool) (data : List Byte) : r.Reports (s.extentRead sl success data) := by
  unfold State.extentRead; dsimp only
  split
  · exact h
  split
  · exact h
  split
  · exact h
  split
  · exact (h.failRecall _ _ _).readEnds _
  split
  · exact h.extentArrived _ _ _ _
  split
  · exact h.setSlot _ _
  · exact (h.failRecall _ _ _).readEnds _

/-! ### Write jobs at their ends and the slots (R132 to R145) -/

theorem slotFree (sl : Slot) : r.Reports (s.slotFree sl) := (h.recallServe _).tryHead _

theorem indexJob (sl : Slot) (j : WriteJob) : r.Reports (s.indexJob sl j) := by
  unfold State.indexJob
  split
  · exact h.setSbm _
  · exact h

theorem completeJob (sl : Slot) (j : WriteJob) : r.Reports (s.completeJob sl j) :=
  (((((h.setCardStatus _ _ _ _).indexJob _ _).raise _ _).setSlot _ _).endCardJob _ _ _ _).slotFree _

theorem stopJob (sl : Slot) (j : WriteJob) : r.Reports (s.stopJob sl j) :=
  (((h.raise _ _).setSlot _ _).endCardJob _ _ _ _).slotFree _

theorem boundary (sl : Slot) (j : WriteJob) : r.Reports (s.boundary sl j) := by
  unfold State.boundary
  split
  · exact h.stopJob _ _
  split
  · split
    · exact h.setSlot _ _
    · exact h
  · exact h.completeJob _ _

theorem moveActive (left : CardStatus) (j : WriteJob) : r.Reports (s.moveActive left j) := by
  unfold State.moveActive
  split
  · exact h.endCardJob _ _ _ _
  · exact h.moveJob _ _

theorem endJobs (sl : Slot) (left : CardStatus) (active queued : List WriteJob) :
    r.Reports (s.endJobs sl left active queued) := by
  unfold State.endJobs
  split
  · exact foldl _ _ (foldl _ _ h fun _ _ ht => ht.moveActive _ _) fun _ _ ht => ht.moveJob _ _
  · exact foldl _ _ h fun _ _ ht => ht.endCardJob _ _ _ _

theorem failSlot (sl : Slot) (j : WriteJob) : r.Reports (s.failSlot sl j) :=
  ((((h.setSlot _ _).endJobs _ _ _ _).raise _ _).failRecalls _ _).sweep

theorem extentWritten (sl : Slot) (success : Bool) : r.Reports (s.extentWritten sl success) := by
  unfold State.extentWritten; dsimp only
  split
  · split
    · exact h
    split
    · exact (h.setSlot _ _).boundary _ _
    split
    · exact h.setSlot _ _
    · exact h.failSlot _ _
  · exact h

theorem insertCard (sl : Slot) : r.Reports (s.insertCard sl) := by
  unfold State.insertCard; dsimp only
  split
  · exact ((h.setCrd _).setSlot _ _).raise _ _
  · exact h

theorem mountCard (sl : Slot) (capacity : Nat) (writeProtected : Bool) :
    r.Reports (s.mountCard sl capacity writeProtected) := by
  unfold State.mountCard; dsimp only
  split
  · split
    · exact (h.setSlot _ _).raise _ _
    · exact ((h.setSlot _ _).raise _ _).sweep
  · exact h

theorem failMount (sl : Slot) : r.Reports (s.failMount sl) := by
  unfold State.failMount; dsimp only
  split
  · exact (h.setSlot _ _).raise _ _
  · exact h

theorem removeCard (sl : Slot) : r.Reports (s.removeCard sl) := by
  unfold State.removeCard; dsimp only
  split
  · exact h
  · exact (((foldl _ _ ((h.setSlot _ _).raise _ _) fun _ _ ht => ht.raise _ _).endJobs _ _ _ _).failRecalls _ _).sweep

theorem grant (sl : Slot) (w : Window) : r.Reports (s.grant sl w) := by
  unfold State.grant; dsimp only
  split
  · exact ((h.setSlot _ _).tryHead _).sweep
  · exact h.setSlot _ _

theorem stopActive (sl : Slot) (j : WriteJob) : r.Reports (s.stopActive sl j) := by
  unfold State.stopActive; dsimp only
  split
  · exact h.stopJob _ _
  · exact h.setSlot _ _

theorem deleteRecall (sl : Slot) (x : Recall) : r.Reports (s.deleteRecall sl x) := by
  unfold State.deleteRecall; dsimp only
  split
  · exact h.setSlot _ _
  · exact h.failRecall _ _ _

theorem deleteOnSlot (n : Nat) (sl : Slot) : r.Reports (s.deleteOnSlot n sl) :=
  foldl _ _ (foldl _ _ (foldl _ _ h fun _ _ ht => (ht.setSlot _ _).endCardJob _ _ _ _) fun _ _ ht => ht.deleteRecall _ _)
    fun _ _ ht => ht.stopActive _ _

/-! ### Completed pictures and passes (R105 to R119) -/

theorem completionJobs (i : Nat) : r.Reports (s.completionJobs i) := by
  unfold State.completionJobs; dsimp only
  split
  · exact h
  split
  · exact (h.requestJob _ _ _).requestJob _ _ _
  · exact h.requestJob _ _ _

theorem completeRaw (i : Nat) : r.Reports (s.completeRaw i) :=
  (((((h.mapObj _ _ _).cardJobs _ _).completionJobs _).evaluateRules _ _).setHolds _ _ _).lookIf _

theorem reportPass (p : Pass) (k : Pict) (scale : Option Scale) (kept : Option Bool) :
    r.Reports (s.reportPass p k scale kept) := by
  unfold State.reportPass; dsimp only
  split
  · exact (h.setDev _).raise _ _
  · exact h

theorem endPass (p : Pass) (k : Pict) : r.Reports (s.endPass p k) := ((h.setDev _).dropJobs _ _).notify _

theorem completeThumb (p : Pass) : r.Reports (s.completeThumb p) :=
  (((h.mapShot _ _).itemsReady _ _).reportPass _ _ _ _).endPass _ _

theorem completeRendition (i n : Nat) : r.Reports (s.completeRendition i n) := by
  unfold State.completeRendition; dsimp only
  refine .setHolds ?_ _ _ _
  refine .itemsReady ?_ _ _
  split
  · exact (h.mapObj _ _ _).cardJobs _ _
  · exact h.mapObj _ _ _

theorem completeRender (p : Pass) : r.Reports (s.completeRender p) :=
  ((h.completeRendition _ _).reportPass _ _ _ _).endPass _ _

theorem returnJob (n : Nat) (k : Pict) : r.Reports (s.returnJob n k) := by
  unfold State.returnJob; dsimp only
  split
  · exact h
  · exact h.setDev _

theorem abandonPass : r.Reports s.abandonPass := by
  unfold State.abandonPass
  split
  · exact h.returnJob _ _
  · exact ((h.returnJob _ _).removeObj _ _).relookItems _ _
  all_goals exact h

/-! ### DELETE_SHOT (R30) -/

theorem deletePass (n : Nat) : r.Reports (s.deletePass n) := by
  unfold State.deletePass; dsimp only
  split
  · split
    · exact h.setDev _
    · exact h
  · split
    · exact (h.setDev _).removeObj _ _
    · exact h
  all_goals exact h

theorem deleteJobs (n : Nat) : r.Reports (s.deleteJobs n) := by
  unfold State.deleteJobs
  split
  · exact ((h.deletePass _).dropJobs _ _).notify _
  · exact h

theorem deleteItems (n : Nat) : r.Reports (s.deleteItems n) := foldl _ _ h fun _ _ ht => ht.removeItem _
theorem releaseKept (i : Nat) (k : Pict) : r.Reports (s.releaseKept i k) := h.setHolds _ _ _

theorem deleteShot (i n : Nat) : r.Reports (s.deleteShot i n) := by
  unfold State.deleteShot
  exact ((((((h.mapShot _ _).deleteOnSlot _ _).deleteOnSlot _ _).deleteJobs _).deleteItems _).releaseKept _ _).releaseKept _ _
    |>.checkRetireShot _

/-! ### Power levels (R118, R119, R154, R175, R207) -/

theorem levelToDev : r.Reports s.levelToDev := by
  unfold State.levelToDev
  split
  · exact h.notify _
  · split
    · exact h.setDev _
    all_goals exact h
  split
  · exact h.setDev _
  all_goals exact h.abandonPass

theorem levelToCrd (before : PowerLevel) : r.Reports (s.levelToCrd before) := by
  unfold State.levelToCrd
  split
  · exact (((h.recallAsk _).tryHead _).recallAsk _).tryHead _
  · exact h

theorem levelToTet (before : PowerLevel) : r.Reports (s.levelToTet before) := by
  unfold State.levelToTet
  split
  · exact h.returnTransfer _
  split
  · exact h.notify _
  · exact h

theorem setLevel (new : PowerLevel) : r.Reports (s.setLevel new) := by
  unfold State.setLevel; dsimp only
  split
  · exact h
  · exact (((((h.setSup _).raise _ _).notify _).levelToDev).levelToCrd _).levelToTet _

/-! ### Focus (R92 to R102) -/

theorem refreshFocus : r.Reports s.refreshFocus := by
  unfold State.refreshFocus
  split
  · split
    · exact h.setFoc _
    · exact h
  split
  · exact h
  · exact h
  all_goals exact h.setFoc _

theorem offer (target : Nat) (kind : MoveKind) : r.Reports (s.offer target kind) := by
  unfold State.offer; dsimp only
  split
  · split
    · exact h
    · exact h.setFoc _
  split
  · exact h
  split
  · exact h.setFoc _
  split
  · exact h
  · exact h.setFoc _

theorem singleChosen (l : Lens) (c : Selected) (focused : Bool) : r.Reports (s.singleChosen l c focused) := by
  unfold State.singleChosen; dsimp only
  split
  · split
    · exact h.setFoc _
    · exact (h.setFoc _).raise _ _
  · exact (h.setFoc _).offer _ _

theorem sweepStep (l : Lens) : r.Reports (s.sweepStep l) := by
  unfold State.sweepStep; dsimp only
  split
  · exact h
  split
  · exact (h.setFoc _).offer _ _
  · exact (h.setFoc _).raise _ _

theorem singleOutcome (l : Lens) (c : Option (Selected × Bool)) : r.Reports (s.singleOutcome l c) := by
  unfold State.singleOutcome
  split
  · exact h.singleChosen _ _ _
  · exact h.singleChosen _ _ _
  · exact h.sweepStep _
  · split
    · exact h
    · exact h.setFoc _
  · exact h

theorem continuousChosen (l : Lens) (c : Selected) (focused : Bool) : r.Reports (s.continuousChosen l c focused) := by
  unfold State.continuousChosen; dsimp only
  split <;> exact (h.setFoc _).offer _ _

theorem continuousOutcome (l : Lens) (c : Option (Selected × Bool)) : r.Reports (s.continuousOutcome l c) := by
  unfold State.continuousOutcome
  split
  · exact h.continuousChosen _ _ _
  split
  · exact h.setFoc _
  · exact h.setFoc _
  all_goals exact h

theorem handOutcome (c : Option (Selected × Bool)) : r.Reports (s.handOutcome c) := by
  unfold State.handOutcome
  split
  · exact h
  split
  · exact h.singleOutcome _ _
  · exact h.continuousOutcome _ _
  · exact h

theorem choose : r.Reports s.choose := by
  unfold State.choose; dsimp only
  split
  · split
    · exact h.handOutcome _
    · exact (h.setFoc _).handOutcome _
  · exact h

theorem arrival (lines : List PupilLines) : r.Reports (s.arrival lines) := ((h.setFoc _).setFoc _).choose

theorem lensMoves : r.Reports s.lensMoves := by
  unfold State.lensMoves; dsimp only
  split
  · exact h.setFoc _
  · exact h

theorem lensSettles (position : Nat) : r.Reports (s.lensSettles position) := by
  unfold State.lensSettles; dsimp only
  split
  · exact h
  · exact h.setFoc _
  split
  · exact h.setFoc _
  · exact (h.setFoc _).offer _ _

theorem lensTimeout : r.Reports s.lensTimeout := by
  unfold State.lensTimeout; dsimp only
  split
  · exact h
  split
  · exact h.setFoc _
  · exact (h.setFoc _).raise _ _

theorem loseSubject : r.Reports s.loseSubject := by
  unfold State.loseSubject; dsimp only
  split
  · exact h
  split
  · exact h
  split
  · exact ((h.setFoc _).setFoc _).raise _ _
  · exact ((h.setFoc _).setFoc _).raise _ _
  · exact ((h.setFoc _).setFoc _).raise _ _
  all_goals exact h.setFoc _

theorem gateRefresh : r.Reports s.gateRefresh := by
  unfold State.gateRefresh; dsimp only
  split
  · split
    · exact h.setFoc _
    · exact (h.setFoc _).notify _
  · exact h.setFoc _

theorem afChanged (old : AfSettings) : r.Reports (s.afChanged old) := by
  unfold State.afChanged; dsimp only
  split
  · split
    · exact h.setFoc _
    · exact h
  split
  · exact (h.setFoc _).setFoc _
  · exact h.setFoc _

/-! ### The sensor, the drive and the frame (R36 to R66) -/

theorem reportBuffered (i : Nat) (sh : Shot) : r.Reports (s.reportBuffered i sh) := by
  unfold State.reportBuffered
  split
  · exact h
  · exact h.raise _ _

theorem powerUpSensor : r.Reports s.powerUpSensor := by
  unfold State.powerUpSensor; dsimp only
  split
  · exact h.setCap _
  · exact h

theorem powerDownSensor : r.Reports s.powerDownSensor := by
  unfold State.powerDownSensor; dsimp only
  split
  · exact h.setCap _
  · exact (h.setCap _).setFoc _
  all_goals exact h

theorem startSequence (d : DriveState) : r.Reports (s.startSequence d) := (h.setCap _).notify _

theorem endStall (f : Frame) (started : Bool) : r.Reports (s.endStall f started) := by
  unfold State.endStall; dsimp only
  split
  · exact h
  · exact (h.setCap _).raise _ _

theorem dropFrame : r.Reports s.dropFrame := by
  unfold State.dropFrame; dsimp only
  refine .setFoc ?_ _
  refine .setCap ?_ _
  split
  · exact h
  · exact h.endStall _ _

theorem stopBurst : r.Reports s.stopBurst := h.dropFrame.raise _ _

theorem freeRing (i : Nat) : r.Reports (s.freeRing i) := by
  unfold State.freeRing; dsimp only
  split
  · exact (h.removeObj _ _).setSbm _
  · exact h

theorem discardRing (i : Nat) : r.Reports (s.discardRing i) := by
  unfold State.discardRing
  split
  · exact h.freeRing _
  · exact h.setHolds _ _ _

theorem discardWholeRing : r.Reports s.discardWholeRing := (foldl _ _ h fun _ _ ht => ht.discardRing _).setCap _

theorem commitRing (i : Nat) : r.Reports (s.commitRing i) := by
  unfold State.commitRing; dsimp only
  split
  · exact h
  split
  · exact ((h.setSbm _).mapShot _ _).setCap _
  split
  · exact (((((h.setSbm _).mapShot _ _).setCap _).raise _ _).completeRaw _).reportBuffered _ _
  · exact ((((h.setSbm _).mapShot _ _).setCap _).raise _ _).setHolds _ _ _

theorem ringToBurst : r.Reports s.ringToBurst := (foldl _ _ (h.setCap _) fun _ _ ht => ht.commitRing _).notify _

theorem leaveIdle : r.Reports s.leaveIdle := by
  unfold State.leaveIdle
  split
  · split <;> exact (h.startSequence _).setCap _
  split
  · exact h.startSequence _
  · exact h

theorem driveOnce : r.Reports s.driveOnce := by
  unfold State.driveOnce
  split
  · exact h.leaveIdle
  · split
    · exact h.ringToBurst
    split
    · exact (h.discardWholeRing.dropFrame.setCap _).leaveIdle
    · exact h
  · split
    · exact (h.dropFrame.setCap _).leaveIdle
    · exact h
  · split
    · exact h
    · exact (h.setCap _).leaveIdle
  split
  · exact h
  split
  · exact h.stopBurst.startSequence _
  · exact (h.stopBurst.setCap _).leaveIdle

theorem driveReact : r.Reports s.driveReact := by
  unfold State.driveReact
  split
  · exact h.driveOnce
  · exact h

theorem openEntry (q : Sequence) (i : Nat) (sh : Shot) (ring : Bool) : r.Reports (s.openEntry q i sh ring) :=
  (h.setSbm _).orElse fun _ => (h.setSbm _).reserve

theorem afterStart (q : Sequence) (n : Nat) (flash : Flash) : r.Reports (s.afterStart q n flash) := by
  unfold State.afterStart; dsimp only
  split
  · split
    · exact h.setCap _
    · exact ((h.setCap _).setCap _).leaveIdle
  · exact (h.setCap _).driveReact

theorem reportFlash (n pattern : Nat) (flash : Flash) : r.Reports (s.reportFlash n pattern flash) := by
  unfold State.reportFlash
  split
  · exact h.raise _ _
  · exact h

theorem startCommitted (q : Sequence) (f : Frame) (flash : Flash) (i n : Nat) : r.Reports (s.startCommitted q f flash i n) :=
  (((((((h.endStall _ _).setSbm _).openEntry _ _ _ _).setCap _).raise _ _).reportFlash _ _ _).setFoc _).afterStart _ _ _

theorem stall (f : Frame) (l : Lack) : r.Reports (s.stall f l) := by
  unfold State.stall; dsimp only
  split
  · exact h.setCap _
  · exact (h.setCap _).raise _ _

theorem openCommitted (q : Sequence) (f : Frame) (flash : Flash) : r.Reports (s.openCommitted q f flash) := by
  unfold State.openCommitted
  split
  · exact h.stall _ _
  split
  · exact h.startCommitted _ _ _ _ _
  · exact h

theorem evaluateCommitted (q : Sequence) (f : Frame) : r.Reports (s.evaluateCommitted q f) := by
  unfold State.evaluateCommitted; dsimp only
  split
  · exact h
  split
  · exact h.setCap _
  · exact h.openCommitted _ _ _

theorem startRing (q : Sequence) (i : Nat) : r.Reports (s.startRing q i) := ((h.openEntry _ _ _ _).setCap _).setCap _

theorem openRing (q : Sequence) (f : Frame) : r.Reports (s.openRing q f) := by
  unfold State.openRing
  split
  · exact h.startRing _ _
  · exact h.setCap _

theorem replaceRing (q : Sequence) (f : Frame) : r.Reports (s.replaceRing q f) := by
  unfold State.replaceRing; dsimp only
  split
  · exact h.setCap _
  · exact ((h.discardRing _).setCap _).openRing _ _

theorem evaluateRing (q : Sequence) (f : Frame) : r.Reports (s.evaluateRing q f) := by
  unfold State.evaluateRing
  split
  · exact h.openRing _ _
  · exact h.replaceRing _ _

theorem evaluate : r.Reports s.evaluate := by
  unfold State.evaluate; dsimp only
  split
  · split
    · exact h
    split
    · exact h.setCap _
    split
    · exact (h.setCap _).evaluateRing _ _
    · exact (h.setCap _).evaluateCommitted _ _
    · exact (h.setCap _).evaluateCommitted _ _
    all_goals exact h.setCap _
  · exact h

theorem reachOpportunity : r.Reports s.reachOpportunity := by
  unfold State.reachOpportunity; dsimp only
  split
  · exact h
  · exact (h.setCap _).notify _

theorem startReadout : r.Reports s.startReadout := by
  unfold State.startReadout; dsimp only
  split
  · exact h
  · exact (h.setCap _).mapShot _ _

theorem measureBlack (samples : List Nat) : r.Reports (s.measureBlack samples) := by
  unfold State.measureBlack; dsimp only
  split
  · exact h
  · exact h.setCap _

theorem sensorAfterReadout : r.Reports s.sensorAfterReadout := by
  unfold State.sensorAfterReadout; dsimp only
  split
  · exact ((h.setCap _).setCap _).notify _
  · exact ((h.setCap _).setCap _).setFoc _

theorem finishFrame (i : Nat) : r.Reports (s.finishFrame i) := by
  unfold State.finishFrame
  split
  · exact h
  split
  · split
    · exact h.mapObj _ _ _
    · exact h.freeRing _
  all_goals exact ((h.mapShot _ _).completeRaw _).reportBuffered _ _

theorem endReadout (f : Flight) (mean black : Nat) (quads : List Quad) (lines : List PupilLines) :
    r.Reports (s.endReadout f mean black quads lines) :=
  ((((h.arrival _).mapShot _ _).mapObj _ _ _).sensorAfterReadout).finishFrame _

theorem endSequence : r.Reports s.endSequence := by
  unfold State.endSequence; dsimp only
  refine .setCap ?_ _
  refine .setCap ?_ _
  split
  · exact h.stopBurst
  · exact h.discardWholeRing.dropFrame
  all_goals exact h.dropFrame

/-! ### Power states, inputs and the step's end (R42 to R48, R211 to R214) -/

theorem leaveActive : r.Reports s.leaveActive := h.endSequence.powerDownSensor.setFoc _
theorem enterActive : r.Reports s.enterActive := (h.powerUpSensor.notify _).driveReact

theorem setPowerState (new : PowerState) : r.Reports (s.setPowerState new) := by
  unfold State.setPowerState; dsimp only
  split
  · exact h
  split
  · exact (h.setSup _).leaveActive
  split
  · exact (h.setSup _).enterActive
  · exact h.setSup _

theorem wokenTo (new : PowerState) (cause : WakeCause) : r.Reports (s.wokenTo new cause) := (h.raise _ _).setPowerState _

theorem wakeTo (target : PowerState) (cause : WakeCause) : r.Reports (s.wakeTo target cause) := by
  unfold State.wakeTo; dsimp only
  split
  · exact h.setSup _
  · exact (h.setSup _).setSbm _

theorem askActive : r.Reports s.askActive := by
  unfold State.askActive
  split
  · exact h
  · exact h.wokenTo _ _
  · exact h.wakeTo _ _

theorem pressed (active : Bool) : r.Reports (s.pressed active) := (h.askActive.either active h).driveReact

theorem triggerEdge : r.Reports s.triggerEdge := by
  unfold State.triggerEdge; dsimp only
  split
  · split
    · exact (h.setCap _).driveReact
    · exact (h.setCap _).driveReact
    all_goals exact h
  · exact (h.setCap _).askActive

theorem recognize (l : InputLine) : r.Reports (s.recognize l) := by
  unfold State.recognize; dsimp only
  split
  · exact (h.setCap _).pressed _
  · exact (h.setCap _).pressed _
  split
  · exact (h.setCap _).triggerEdge
  · exact h.setCap _

theorem dropTrigger : r.Reports s.dropTrigger := by
  unfold State.dropTrigger; dsimp only
  split
  · split
    · exact ((h.setCap _).dropFrame).setCap _
    · exact h.setCap _
  · exact h

theorem handle (n : Notice) : r.Reports (s.handle n) := by
  unfold State.handle
  split
  · exact h.evaluate
  · exact h.engineLook
  · exact h.recallAsk _
  · exact h.linkAsk
  · exact h.preempt
  · exact h.expireItem _

theorem refresh : r.Reports s.refresh := h.refreshFocus.gateRefresh

theorem drain (fuel : Nat) : r.Reports (s.drain fuel) := by
  induction fuel generalizing s with
  | zero => exact h.refresh
  | succ n ih =>
    unfold State.drain; dsimp only
    split
    · exact h.refresh
    · exact ih ((h.refresh.setNotices _).handle _)

/-- The step carried to its end keeps the replies and the link's sizes. -/
theorem settle : r.Reports s.settle := h.drain _

/-! ### What commands and events do -/

theorem setTimeBase (t : Nat) : r.Reports (s.setTimeBase t) := ((h.setSup _).loseSubject).expirePassed

theorem tellTags (i n : Nat) (old new : Shot) : r.Reports (s.tellTags i n old new) := by
  have moved := (h.either (old.urgent = new.urgent) (h.moveUrgent n new.urgent)).evaluateRules i (newlySet old new)
  exact (moved.raiseItems n).either (new.urgent && !old.urgent) moved

theorem applyTags (i n : Nat) (sh : Shot) (urgent picked : TagAction) (rating : Option Nat) :
    r.Reports (s.applyTags i n sh urgent picked rating) := by
  unfold State.applyTags; dsimp only
  split
  · exact (h.mapShot _ _).tellTags _ _ _ _
  · exact h.mapShot _ _

theorem dropInbox (old : TetherSettings) : r.Reports (s.dropInbox old) := by
  unfold State.dropInbox; dsimp only
  split
  · exact h
  · exact h.setTet _

theorem stopRejoin : r.Reports s.stopRejoin := by
  unfold State.stopRejoin; dsimp only
  split
  · exact h
  · exact h.setTet _

theorem raiseLevel (old : TetherSettings) : r.Reports (s.raiseLevel old) := by
  unfold State.raiseLevel
  split
  · exact foldl _ _ h fun _ _ ht => ht.raiseItems _
  · exact h

theorem wakeOver : r.Reports s.wakeOver := by
  unfold State.wakeOver
  split
  · exact h
  · exact (h.setSup _).wokenTo _ _

theorem readoutOver (quads : List Quad) (lines : List PupilLines) : r.Reports (s.readoutOver quads lines) := by
  unfold State.readoutOver
  split
  · exact h
  split
  · exact h
  · exact h.endReadout _ _ _ _ _

theorem passOver : r.Reports s.passOver := by
  unfold State.passOver
  split
  · exact h.completeThumb _
  · exact h.completeRender _
  all_goals exact h

theorem releaseHold (i : Nat) (k : Pict) (hd : Hold) : r.Reports (s.releaseHold i k hd) := h.setHolds _ _ _
theorem judgeLevel : r.Reports s.judgeLevel := h.setLevel _
theorem sleep : r.Reports s.sleep := (h.setPowerState _).setSbm _
theorem fitLens (lens : Option Lens) (position : Option Nat) : r.Reports (s.fitLens lens position) := h.setFoc _
theorem takeReading (millivolts : Nat) : r.Reports (s.takeReading millivolts) := (h.setSup _).judgeLevel
theorem sensorReady : r.Reports s.sensorReady := (h.setCap _).notify _
theorem liveFrame (lines : List PupilLines) : r.Reports (s.liveFrame lines) := (h.setCap _).arrival _
theorem lineLevel (l : InputLine) (high : Bool) : r.Reports (s.lineLevel l high) := h.setCap _
theorem expireFlashWait : r.Reports s.expireFlashWait := (h.setCap _).notify _
theorem expireFocusWait : r.Reports s.expireFocusWait := h.setFoc _
theorem goBack : r.Reports s.goBack := h.raiseTec.setTet _
theorem relookJob (n : Nat) (look : JobLook) : r.Reports (s.relookJob n look) := (h.setDev _).lookIf _
theorem leaveInbox (p : Pull) : r.Reports (s.leaveInbox p) := h.setTet _

theorem answerObject (pull n : Nat) (k : Pict) (priority : Nat) : r.Reports (s.answerObject pull n k priority).1 :=
  (h.requestItem _ _ _ _ _ _).pushTx _

end

end State.Reports

end Sys2Proof.Machine
end

section
/-! PROOFS. What every row does to the queues of the link: the commands answered once, and the link within its sizes
(Chapter 10). -/

namespace Sys2Proof.Machine.CommandLink
open Sys2Proof LensDrive EveryRow

/-! ### What the commands' own effects do to the link -/

theorem reports_readReports (x : State) (count : Nat) (sel : Option LineSel) : x.Reports (x.readReports count sel).state :=
  match sel with
  | none => .refl x
  | some _ => ⟨rfl, fun h => { h with
      reports := Nat.le_trans (pickRecords_left_sublist ..).length_le h.reports
      lost := Nat.zero_le _ }⟩

theorem reports_getStatus (x : State) (parts : List (Option StatusPart)) : x.Reports (x.getStatus parts).state := by
  unfold State.getStatus; split <;> exact .refl x

theorem reports_setRoutes (x : State) (pairs : List (Option ReportKind × Option Route)) : x.Reports (x.setRoutes pairs).state := by
  unfold State.setRoutes; split
  · exact .refl x
  · exact (State.Reports.refl x).setSettings _

theorem reports_setTime (x : State) (time : Nat) : x.Reports (x.setTime time).state := by
  unfold State.setTime; split
  · exact .refl x
  · exact (State.Reports.refl x).setTimeBase time

theorem reports_askDormant (x : State) : x.Reports x.askDormant.state := by
  unfold State.askDormant; split
  · exact .refl x
  · exact (State.Reports.refl x).sleep

theorem reports_askPower (x : State) (p : PowerState) : x.Reports (x.askPower p).state := by
  have self := State.Reports.refl x
  unfold State.askPower
  split
  next => exact self
  next => exact self.setPowerState _
  next => exact self.wokenTo _ _
  next => exact self
  next => exact reports_askDormant x
  next => exact reports_askDormant x
  next => exact self.wakeTo _ _
  next => exact self.wakeTo _ _
  next => exact self

theorem reports_setPower (x : State) (target : Option PowerState) : x.Reports (x.setPower target).state :=
  match target with
  | none => .refl x
  | some p => reports_askPower x p

theorem reports_saveSettings (x : State) : x.Reports x.saveSettings.state := by
  unfold State.saveSettings; split
  · exact .refl x
  · exact (State.Reports.refl x).setSup _

theorem reports_useCapture (x : State) (c : CaptureSettings) : x.Reports (x.useCapture c) := by
  have set := (State.Reports.refl x).setSettings { x.settings with capture := c }
  unfold State.useCapture; dsimp only
  split
  · exact set.driveReact
  · exact set.dropTrigger.driveReact

theorem reports_setCapture (x : State) (a : CaptureArgs) : x.Reports (x.setCapture a).state := by
  unfold State.setCapture; split
  · exact reports_useCapture x _
  · exact .refl x

theorem reports_release (x : State) (action : Option ReleaseAction) : x.Reports (x.release action).state :=
  match action with
  | none => .refl x
  | some _ => ((State.Reports.refl x).setCap _).pressed _

theorem reports_setShotBase (x : State) (number : Nat) : x.Reports (x.setShotBase number).state := by
  unfold State.setShotBase; split
  · exact .refl x
  · exact ((State.Reports.refl x).setSbm _).notify _

theorem reports_setAf (x : State) (a : AfArgs) : x.Reports (x.setAf a).state := by
  unfold State.setAf; split
  · exact .refl x
  · exact ((State.Reports.refl x).setSettings _).afChanged _

theorem reports_setLens (x : State) (a : LensArgs) : x.Reports (x.setLens a).state := by
  unfold State.setLens
  split
  · exact .refl x
  split
  · exact .refl x
  split <;> exact (State.Reports.refl x).fitLens _ _

theorem reports_readShot (x : State) (n : Nat) : x.Reports (x.readShot n).state := by
  unfold State.readShot; split <;> exact .refl x

theorem reports_readThumb (x : State) (n offset length : Nat) : x.Reports (x.readThumb n offset length).state := by
  unfold State.readThumb
  split
  · exact .refl x
  split
  · exact .refl x
  split <;> exact .refl x

theorem reports_tagShot (x : State) (n : Nat) (urgent picked : Option TagAction) (rating : Option (Option Nat)) :
    x.Reports (x.tagShot n urgent picked rating).state := by
  unfold State.tagShot
  split
  · split
    · exact .refl x
    · split
      · exact .refl x
      · exact (State.Reports.refl x).applyTags _ _ _ _ _ _
  · exact .refl x

theorem reports_hold (x : State) (n : Nat) (kind : Option Pict) : x.Reports (x.hold n kind).state := by
  unfold State.hold; split
  · exact .refl x
  · exact (State.Reports.refl x).place _ _ _

theorem reports_unhold (x : State) (n : Nat) (kind : Option Pict) : x.Reports (x.unhold n kind).state := by
  unfold State.unhold; split
  · exact .refl x
  · exact (State.Reports.refl x).releaseHold _ _ _

theorem reports_askDelete (x : State) (n : Nat) : x.Reports (x.askDelete n).state := by
  unfold State.askDelete
  split
  · exact .refl x
  next e _ =>
    split
    · exact .refl x
    split
    · exact .refl x
    · dsimp only
      exact (State.Reports.refl x).deleteShot e.1 n

theorem reports_setLook (x : State) (slot : Nat) (a : LookArgs) : x.Reports (x.setLook slot a).state := by
  unfold State.setLook
  split
  · split
    · exact .refl x
    · exact (State.Reports.refl x).setSettings _
  · exact .refl x

theorem reports_setCurve (x : State) (slot : Nat) (points : List Nat) : x.Reports (x.setCurve slot points).state := by
  unfold State.setCurve; split
  · exact .refl x
  · exact (State.Reports.refl x).setSettings _

theorem reports_developShot (x : State) (i n : Nat) (sh : Shot) (look : JobLook) :
    x.Reports (x.developShot i n sh look).state := by
  unfold State.developShot
  split
  · exact .refl x
  split
  · exact .refl x
  split
  · exact .refl x
  split
  · exact (State.Reports.refl x).relookJob _ _
  · exact (State.Reports.refl x).requestJob _ _ _

theorem reports_develop (x : State) (n slot : Nat) : x.Reports (x.develop n slot).state := by
  unfold State.develop
  split
  · exact .refl x
  split
  · exact .refl x
  · exact reports_developShot x _ _ _ _

theorem reports_setCardMode (x : State) (mode : Option CardMode) (content : Option CardContent) :
    x.Reports (x.setCardMode mode content).state := by
  unfold State.setCardMode; split
  · exact ((State.Reports.refl x).setSettings _).sweep
  · exact .refl x

theorem reports_grantWindow (x : State) (slot : Option Slot) (mount start length : Nat) :
    x.Reports (x.grantWindow slot mount start length).state := by
  unfold State.grantWindow State.grantOn
  split
  · exact .refl x
  split
  · exact .refl x
  split
  · exact .refl x
  · exact (State.Reports.refl x).grant _ _

theorem reports_askRecall (x : State) (n : Nat) (kind : Option Pict) : x.Reports (x.askRecall n kind).state := by
  unfold State.askRecall
  split
  · exact .refl x
  · exact .refl x
  · rw [recallAnswer_state]
    exact (State.Reports.refl x).requestRecall _ _ _ _

theorem reports_useTether (x : State) (t : TetherSettings) : x.Reports (x.useTether t) := by
  have set := (State.Reports.refl x).setSettings { x.settings with tether := t }
  unfold State.useTether; dsimp only
  split
  · exact ((set.dropInbox _).stopRejoin).raiseLevel _
  · exact ((set.leaveStation.dropInbox _).stopRejoin).raiseLevel _

theorem reports_setTether (x : State) (a : TetherArgs) : x.Reports (x.setTether a).state := by
  unfold State.setTether
  split
  · split
    · exact .refl x
    · exact reports_useTether x _
  · exact .refl x

theorem reports_setSendRule (x : State) (index : Nat) (a : RuleArgs) : x.Reports (x.setSendRule index a).state := by
  unfold State.setSendRule
  split
  · split
    · exact .refl x
    · exact (State.Reports.refl x).setSettings _
  · exact .refl x

theorem reports_enqueue (x : State) (n : Nat) (kind : Option Pict) (priority : Nat) (deadline : Option (Option Nat))
    (policy : Option Policy) : x.Reports (x.enqueue n kind priority deadline policy).state := by
  unfold State.enqueue; split
  · exact (State.Reports.refl x).requestItem _ _ _ _ _ _
  · exact .refl x

theorem reports_cancelItem (x : State) (m : Nat) : x.Reports (x.cancelItem m).state := by
  unfold State.cancelItem; split
  · exact .refl x
  · exact (State.Reports.refl x).removeItem _

theorem reports_answerHeld (x : State) (p : Pull) (answer : PullAnswer) (priority : Nat) :
    x.Reports (x.answerHeld p answer priority).state := by
  have left := (State.Reports.refl x).leaveInbox p
  unfold State.answerHeld; dsimp only
  split
  · exact left.pushTx _
  · exact left.pushTx _
  · exact left.answerObject _ _ _ _

theorem reports_answerPull (x : State) (pull : Nat) (answer : Option PullAnswer) (priority : Nat) :
    x.Reports (x.answerPull pull answer priority).state := by
  unfold State.answerPull
  split
  · exact .refl x
  split
  · exact .refl x
  · exact reports_answerHeld x _ _ _

/-! ### Every host command is answered once (R221, R222) -/

/-- A row written as a command frame is taken under that frame's KIND and TAG by an effect that leaves the replies as they
are and the link within its sizes. -/
def AnswersOnce (c : Instr) : Prop :=
  ∀ p, Command.parts c = some p → ∃ awake act, (∀ x : State, x.Reports (act x).state)
    ∧ ∀ s, exec c s = .next (s.take p.1 p.2.1 awake act)

theorem AnswersOnce.of_take {c : Instr} {kind tag : Nat} {body : List Byte} {awake : Bool} {act : State → Answer}
    (parts : Command.parts c = some (kind, tag, body)) (reports : ∀ x : State, x.Reports (act x).state)
    (taken : ∀ s, exec c s = .next (s.take kind tag awake act)) : AnswersOnce c := by
  intro p h
  obtain rfl := Option.some.inj (parts.symm.trans h)
  exact ⟨_, act, reports, taken⟩

theorem AnswersOnce.of_takeSized {c : Instr} {kind tag : Nat} {body : List Byte} {awake fits : Bool} {act : State → Answer}
    (parts : Command.parts c = some (kind, tag, body)) (reports : ∀ x : State, x.Reports (act x).state)
    (taken : ∀ s, exec c s = .next (s.takeSized kind tag awake fits act)) : AnswersOnce c := by
  refine .of_take parts (fun x => ?_) fun s => (taken s).trans (congrArg _ (takeSized_eq_take ..))
  cases fits
  · exact .refl x
  · exact reports x

theorem AnswersOnce.of_event {c : Instr} (event : Command.parts c = none) : AnswersOnce c :=
  fun _ h => nomatch event.symm.trans h

theorem answersOnce : ∀ c, AnswersOnce c
  | .identify _ => .of_take rfl .refl fun _ => rfl
  | .getStatus _ ps => .of_takeSized rfl (reports_getStatus · ps) fun _ => rfl
  | .readReports _ n l => .of_take rfl (reports_readReports · n l) fun _ => rfl
  | .setRoutes _ ps => .of_takeSized rfl (reports_setRoutes · ps) fun _ => rfl
  | .reset _ => .of_take rfl (fun _ => ⟨rfl, fun h => { h with }⟩) fun _ => rfl
  | .setTime _ v => .of_take rfl (reports_setTime · v) fun _ => rfl
  | .setPower _ p => .of_take rfl (reports_setPower · p) fun _ => rfl
  | .setThresholds _ _ _ => .of_take rfl (fun x => ((State.Reports.refl x).setSettings _).judgeLevel) fun _ => rfl
  | .saveSettings _ => .of_take rfl reports_saveSettings fun _ => rfl
  | .setCapture _ a => .of_take rfl (reports_setCapture · a) fun _ => rfl
  | .setSync _ _ => .of_take rfl (fun x => (State.Reports.refl x).setSettings _) fun _ => rfl
  | .release _ a => .of_take rfl (reports_release · a) fun _ => rfl
  | .setShotBase _ n => .of_take rfl (reports_setShotBase · n) fun _ => rfl
  | .setAf _ a => .of_take rfl (reports_setAf · a) fun _ => rfl
  | .setLens _ a => .of_take rfl (reports_setLens · a) fun _ => rfl
  | .listShots _ _ _ => .of_take rfl .refl fun _ => rfl
  | .readShot _ n => .of_take rfl (reports_readShot · n) fun _ => rfl
  | .readThumb _ n o l => .of_take rfl (reports_readThumb · n o l) fun _ => rfl
  | .tagShot _ n u p r => .of_take rfl (reports_tagShot · n u p r) fun _ => rfl
  | .hold _ n k => .of_take rfl (reports_hold · n k) fun _ => rfl
  | .unhold _ n k => .of_take rfl (reports_unhold · n k) fun _ => rfl
  | .deleteShot _ n => .of_take rfl (reports_askDelete · n) fun _ => rfl
  | .readCardIndex _ _ _ => .of_take rfl .refl fun _ => rfl
  | .setLook _ sl a => .of_take rfl (reports_setLook · sl a) fun _ => rfl
  | .setCurve _ sl ps => .of_takeSized rfl (reports_setCurve · sl ps) fun _ => rfl
  | .develop _ n l => .of_take rfl (reports_develop · n l) fun _ => rfl
  | .setCardMode _ m c => .of_take rfl (reports_setCardMode · m c) fun _ => rfl
  | .grantWindow _ sl m a l => .of_take rfl (reports_grantWindow · sl m a l) fun _ => rfl
  | .recall _ n k => .of_take rfl (reports_askRecall · n k) fun _ => rfl
  | .setTether _ a => .of_take rfl (reports_setTether · a) fun _ => rfl
  | .setSendRule _ i a => .of_take rfl (reports_setSendRule · i a) fun _ => rfl
  | .enqueue _ n k p d e => .of_take rfl (reports_enqueue · n k p d e) fun _ => rfl
  | .cancelItem _ m => .of_take rfl (reports_cancelItem · m) fun _ => rfl
  | .readQueue _ _ _ => .of_take rfl .refl fun _ => rfl
  | .answerPull _ p a r => .of_take rfl (reports_answerPull · p a r) fun _ => rfl
  | .rejoin _ => .of_take rfl (fun x => (State.Reports.refl x).rejoinLink) fun _ => rfl
  | .chipSelectFall | .chipSelectRise | .lengthOversize _ | .frameComplete _ | .replyRead _ | .resetPendingTimeout _
  | .pinReset _ | .brownoutHold | .powerLoss | .supplyRecovered _ | .supplyReading _ | .wakeEnd | .settingsWriteEnd _
  | .warmupEnd | .liveFrame _ | .lineLevelChange .. | .debounceRecognized _ | .flashReadyChange _ | .flashWaitExpiry
  | .flashPulseStart | .flashPulseEnd | .frameOpportunity | .exposureEnd | .obRowsEnd _ | .readoutEnd ..
  | .lensMoving | .lensSettled _ | .lensAnswerTimeout | .lostTimerExpiry | .focusWaitExpiry | .inFocusAgeExpiry
  | .thumbPassEnd | .renderPassEnd | .cardInserted _ | .mountComplete .. | .mountFailed _ | .mountTimeout _
  | .cardRemoved _ | .extentWriteEnd .. | .extentReadEnd .. | .carrierUp | .carrierDown | .relayFrameBad _
  | .relayFrameDisregarded _ | .acceptReceived .. | .refuseReceived .. | .ackReceived .. | .nakReceived ..
  | .beaconReceived .. | .pullReceived .. | .beaconLoss | .offerTimeout | .ackTimeout | .portFree
  | .deadlineExpiry _ | .syncByte => .of_event rfl

/-- A taken command's reply is the one the queue gains: no other comes of the command or of the step's end. -/
theorem replies_take {s : State} (h : s.Takes) {act : State → Answer} (reports : ∀ x : State, x.Reports (act x).state)
    (kind tag : Nat) (awake : Bool) : ∃ (status : Status) (rest : List Byte),
      (s.take kind tag awake act).link.replies
        = s.link.replies ++ [{ kind := kind + 128, tag := tag, body := status.byte :: rest }] := by
  by_cases refused : awake = true ∧ s.sup.power = .dormant
  · obtain ⟨rfl, dormant⟩ := refused
    exact ⟨.state, [], by rw [take_of_dormant h dormant]; rfl⟩
  · refine ⟨(act s).status, (act s).rest, ?_⟩
    have kept : (act s).state.settle.link.replies = s.link.replies := (reports s).settle.replies
    have taken : s.take kind tag awake act = (act s).state.settle.pushReply (kind + 128) tag (act s).status (act s).rest := by
      simp only [State.take, h.running, deaf_of_takes h, replyKind, Bool.and_eq_true, beq_iff_eq, refused, Bool.false_eq_true,
        if_false]
    rw [taken]
    exact congrArg (· ++ _) kept

/-- Settles O8: the command's effect and the step's end keep the replies, and one is added. -/
theorem takenCommandsAreAnsweredOnce : Obligations.TakenCommandsAreAnsweredOnce := by
  intro c s p takes parts
  obtain ⟨awake, act, reports, taken⟩ := answersOnce c p parts
  obtain ⟨status, rest, replies⟩ := replies_take takes reports p.1 p.2.1 awake
  exact ⟨_, status, rest, taken s, replies⟩

end Sys2Proof.Machine.CommandLink
end

section
/-! PROOFS. The queues and counts of the link stay within their sizes over every step (R222, R225). -/

namespace Sys2Proof.Machine.CommandLink
open Sys2Proof LensDrive EveryRow

/-! ### The link's own operations -/

/-- What a block or an event does keeps the queues and counts of the link within their sizes. -/
def KeepsBounded (act : State → State) : Prop := ∀ x : State, x.link.Bounded → (act x).link.Bounded

theorem keepsBounded_of_reports {act : State → State} (h : ∀ x : State, x.Reports (act x)) : KeepsBounded act :=
  fun x => (h x).bounded

theorem bounded_setLink {f : Link → Link} (h : ∀ l, l.Bounded → (f l).Bounded) :
    KeepsBounded fun x => x.setLink (f x.link) :=
  fun x => h x.link

theorem bounded_open (l : Link) (h : l.Bounded) : l.open.Bounded := { h with }

theorem bounded_fail (e : LinkError) (l : Link) (h : l.Bounded) : (l.fail e).Bounded := { h with }

theorem bounded_close (l : Link) (h : l.Bounded) : l.close.Bounded := by
  unfold Link.close; dsimp only
  split
  · exact { h with }
  · exact { h with }

theorem bounded_sync (l : Link) (h : l.Bounded) : l.sync.Bounded := by
  unfold Link.sync; split
  · exact { h with }
  · exact h

theorem bounded_oversize (length : Nat) (l : Link) (h : l.Bounded) : (l.oversize length).Bounded := by
  unfold Link.oversize; split
  · exact { h with }
  · exact h

theorem bounded_popReply (l : Link) (h : l.Bounded) : l.popReply.Bounded :=
  { h with replies := Nat.le_trans (List.drop_sublist ..).length_le h.replies }

theorem bounded_reset (p : Pins) : (Link.reset p).Bounded := ⟨Nat.zero_le _, Nat.zero_le _, Nat.zero_lt_succ _, Nat.zero_le _⟩

theorem bounded_discardCommand : KeepsBounded State.discardCommand := fun _ h => { h with }

/-- A link that is not deaf has room for one more reply (R221, R222). -/
theorem bounded_pushReply {s : State} (h : s.link.Bounded) (hears : s.link.replies.length < 8) (kind tag : Nat) (status : Status)
    (rest : List Byte) : (s.pushReply kind tag status rest).link.Bounded :=
  { h with replies := Nat.le_trans (Nat.le_of_eq List.length_append) hears }

theorem room_of_hears {l : Link} (hears : l.deaf ≠ true) : l.replies.length < 8 := by
  rw [ne_eq, deaf_iff, not_or] at hears; omega

/-! ### The step's end, the clock and the resets -/

theorem bounded_settle {s : State} (h : s.link.Bounded) : s.settle.link.Bounded := (State.Reports.refl s).settle.bounded h

theorem bounded_event {act : State → State} (keeps : KeepsBounded act) : KeepsBounded (·.event act) := by
  intro s h
  show (s.event act).link.Bounded
  unfold State.event; split
  · exact h
  · exact bounded_settle (keeps s h)

theorem bounded_timer {act : State → State} (keeps : KeepsBounded act) (due : Option Nat) : KeepsBounded (·.timer due act) :=
  match due with
  | none => fun _ h => h
  | some d => bounded_event fun x h => keeps (x.carryTo d) ((State.carryTo_link x d).symm ▸ h)

theorem bounded_timeTimer {act : State → State} (keeps : KeepsBounded act) (due : Option Nat) :
    KeepsBounded (·.timeTimer due act) :=
  match due with
  | none => fun _ h => h
  | some t => bounded_event fun x h => keeps (x.carryToTime t) ((State.carryToTime_link x t).symm ▸ h)

/-- A reset empties both queues, and the report of its first reading finds them empty (R207, R232). -/
theorem bounded_doReset (s : State) (cause : ResetCause) (reading : Nat) : (s.doReset cause reading).link.Bounded := by
  have reset : (s.afterReset cause reading).link.Bounded := bounded_reset s.pins
  unfold State.doReset; dsimp only
  split
  · exact reset
  · exact ((State.Reports.refl _).raise _ _).bounded reset

theorem bounded_readReply (reading : Nat) : KeepsBounded (·.readReply reading) := by
  intro s h
  show (s.readReply reading).link.Bounded
  unfold State.readReply; dsimp only
  split
  · split
    · exact bounded_doReset _ _ _
    · exact bounded_popReply s.link h
  · exact h

theorem bounded_recover (reading : Nat) : KeepsBounded (·.recover reading) := by
  intro s h
  show (s.recover reading).link.Bounded
  unfold State.recover; split
  · exact h
  · exact bounded_settle (bounded_doReset _ _ _)

theorem ageOut_link (x : State) : x.ageOut.link = x.link := by
  unfold State.ageOut; split
  · rfl
  · exact State.carryToTime_link ..

/-! ### Commands and frames (R219 to R222) -/

theorem bounded_take {act : State → Answer} (reports : ∀ x : State, x.Reports (act x).state) (kind tag : Nat) (awake : Bool) :
    KeepsBounded (·.take kind tag awake act) := by
  intro s h
  show (s.take kind tag awake act).link.Bounded
  have acted : s.Reports (act s).state.settle := (reports s).settle
  unfold State.take
  split
  · exact h
  split
  · exact bounded_discardCommand s h
  next hears =>
    have room := room_of_hears hears
    split
    · exact bounded_pushReply h room ..
    · exact bounded_pushReply (acted.bounded h) (acted.replies ▸ room) ..

/-- From a link within its sizes the row has an outcome, and the link is within them in it. -/
def StaysBounded (c : Instr) : Prop := ∀ s : State, s.link.Bounded → ∃ t, exec c s = .next t ∧ t.link.Bounded

theorem StaysBounded.of_keeps {c : Instr} {f : State → State} (means : ∀ s, exec c s = .next (f s)) (keeps : KeepsBounded f) :
    StaysBounded c := fun s h => ⟨_, means s, keeps s h⟩

theorem StaysBounded.of_event {c : Instr} {act : State → State} (means : ∀ s, exec c s = .next (s.event act))
    (h : ∀ x : State, x.Reports (act x)) : StaysBounded c := .of_keeps means (bounded_event (keepsBounded_of_reports h))

/-- An event that takes a level of the pins first (log entry 29). -/
theorem StaysBounded.of_pinEvent {c : Instr} {pins : State → Pins} {act : State → State}
    (means : ∀ s, exec c s = .next ((s.setPins (pins s)).event act)) (h : ∀ x : State, x.Reports (act x)) : StaysBounded c :=
  .of_keeps means fun s => bounded_event (keepsBounded_of_reports h) (s.setPins (pins s))

theorem StaysBounded.of_timer {c : Instr} {due : State → Option Nat} {act : State → State}
    (means : ∀ s, exec c s = .next (s.timer (due s) act)) (h : ∀ x : State, x.Reports (act x)) : StaysBounded c :=
  .of_keeps means fun s => bounded_timer (keepsBounded_of_reports h) (due s) s

theorem StaysBounded.of_timeTimer {c : Instr} {due : State → Option Nat} {act : State → State}
    (means : ∀ s, exec c s = .next (s.timeTimer (due s) act)) (h : ∀ x : State, x.Reports (act x)) : StaysBounded c :=
  .of_keeps means fun s => bounded_timeTimer (keepsBounded_of_reports h) (due s) s

theorem StaysBounded.of_link {c : Instr} {f : Link → Link}
    (means : ∀ s, exec c s = .next (s.event fun x => x.setLink (f x.link))) (h : ∀ l, l.Bounded → (f l).Bounded) : StaysBounded c := .of_keeps means (bounded_event (bounded_setLink h))

theorem staysBounded_of_command {c : Instr} {p : Nat × Nat × List Byte} (parts : Command.parts c = some p) : StaysBounded c := by
  obtain ⟨awake, act, reports, taken⟩ := answersOnce c p parts
  exact .of_keeps taken (bounded_take reports p.1 p.2.1 awake)

theorem bounded_runCommand (c : Instr) {s : State} (h : s.link.Bounded) : ∃ t, runCommand c s = .next t ∧ t.link.Bounded := by
  rw [runCommand_eq]
  split
  next command =>
    obtain ⟨p, parts⟩ := Option.isSome_iff_exists.mp command
    exact staysBounded_of_command parts s h
  next => exact ⟨s, rfl, h⟩

/-- A frame that names no command is answered where there is room, and discarded where there is none. -/
theorem bounded_refusal {s : State} (h : s.link.Bounded) (kind tag : Nat) (status : Status) :
    (if s.link.deaf then s.discardCommand else s.pushReply kind tag status []).link.Bounded := by
  split
  · exact bounded_discardCommand s h
  next hears => exact bounded_pushReply h (room_of_hears hears) ..

theorem bounded_takeFrame {s : State} (h : s.link.Bounded) (kind tag : Nat) (body : List Byte) :
    ∃ t, s.takeFrame kind tag body = .next t ∧ t.link.Bounded := by
  unfold State.takeFrame
  split
  · exact bounded_runCommand _ h
  · exact ⟨_, rfl, bounded_refusal h ..⟩
  · exact ⟨_, rfl, bounded_refusal h ..⟩

theorem staysBounded_frameComplete (bytes : List Byte) : StaysBounded (.frameComplete bytes) := by
  intro s h
  have hunts : (s.setLink { s.link with assembler := .hunt }).link.Bounded := { h with }
  show ∃ t, execFrameComplete bytes s = .next t ∧ t.link.Bounded
  unfold execFrameComplete State.completeFrame; dsimp only
  split
  · split
    · exact bounded_takeFrame hunts ..
    · exact ⟨_, rfl, bounded_fail .check _ hunts⟩
  · exact ⟨s, rfl, h⟩

/-! ### Every row -/

theorem staysBounded_chipSelectFall : StaysBounded .chipSelectFall := by
  refine .of_keeps (fun _ => rfl) fun s h => ?_
  split
  · exact bounded_event (bounded_setLink bounded_open) (s.chipSelect false) h
  · exact h

theorem staysBounded_chipSelectRise : StaysBounded .chipSelectRise := by
  refine .of_keeps (fun _ => rfl) fun s h => ?_
  split
  · exact h
  · exact bounded_event (bounded_setLink bounded_close) (s.chipSelect true) h

theorem staysBounded_brownoutHold : StaysBounded .brownoutHold := by
  refine .of_keeps (fun _ => rfl) fun s h => ?_
  split
  · exact h
  · exact h

theorem reports_obRows (x : State) (samples : List Nat) : x.Reports (if x.cap.awaitsOb then x.measureBlack samples else x) := by
  split
  · exact (State.Reports.refl x).measureBlack samples
  · exact .refl x

theorem staysBounded : ∀ c, StaysBounded c
  | .identify .. | .getStatus .. | .readReports .. | .setRoutes .. | .reset .. | .setTime ..
  | .setPower .. | .setThresholds .. | .saveSettings .. | .setCapture .. | .setSync ..
  | .release .. | .setShotBase .. | .setAf .. | .setLens .. | .listShots .. | .readShot ..
  | .readThumb .. | .tagShot .. | .hold .. | .unhold .. | .deleteShot .. | .readCardIndex ..
  | .setLook .. | .setCurve .. | .develop .. | .setCardMode .. | .grantWindow .. | .recall ..
  | .setTether .. | .setSendRule .. | .enqueue .. | .cancelItem .. | .readQueue ..
  | .answerPull .. | .rejoin .. => staysBounded_of_command rfl
  | .chipSelectFall => staysBounded_chipSelectFall
  | .chipSelectRise => staysBounded_chipSelectRise
  | .lengthOversize length => .of_link (fun _ => rfl) (bounded_oversize length)
  | .syncByte => .of_link (fun _ => rfl) bounded_sync
  | .frameComplete bytes => staysBounded_frameComplete bytes
  | .replyRead reading => .of_keeps (fun _ => rfl) (bounded_event (bounded_readReply reading))
  | .resetPendingTimeout _ => .of_keeps (fun _ => rfl) fun s => bounded_timer (fun x _ => bounded_doReset x _ _) s.link.resetDue s
  | .pinReset _ => .of_keeps (fun _ => rfl) (bounded_event fun x _ => bounded_doReset x _ _)
  | .brownoutHold => staysBounded_brownoutHold
  | .powerLoss => .of_keeps (fun _ => rfl) fun _ h => h
  | .supplyRecovered reading => .of_keeps (fun _ => rfl) (bounded_recover reading)
  | .supplyReading mv => .of_timer (fun _ => rfl) fun x => (State.Reports.refl x).takeReading mv
  | .wakeEnd => .of_timer (fun _ => rfl) fun x => (State.Reports.refl x).wakeOver
  | .settingsWriteEnd _ => .of_timer (fun _ => rfl) fun x => ((State.Reports.refl x).setSup _).raise _ _
  | .warmupEnd => .of_timer (fun _ => rfl) fun x => (State.Reports.refl x).sensorReady
  | .liveFrame lines => .of_timer (fun _ => rfl) fun x => (State.Reports.refl x).liveFrame lines
  | .lineLevelChange l high => .of_pinEvent (fun _ => rfl) fun x => (State.Reports.refl x).lineLevel l high
  | .debounceRecognized l => .of_timer (fun _ => rfl) fun x => (State.Reports.refl x).recognize l
  | .flashReadyChange _ => .of_pinEvent (fun _ => rfl) fun x => (State.Reports.refl x).notify .evaluate
  | .flashWaitExpiry => .of_timer (fun _ => rfl) fun x => (State.Reports.refl x).expireFlashWait
  | .flashPulseStart => .of_timer (fun _ => rfl) fun x => (State.Reports.refl x).setCap _
  | .flashPulseEnd => .of_timer (fun _ => rfl) fun x => (State.Reports.refl x).setCap _
  | .frameOpportunity => .of_timer (fun _ => rfl) fun x => (State.Reports.refl x).reachOpportunity
  | .exposureEnd => .of_timer (fun _ => rfl) fun x => (State.Reports.refl x).startReadout
  | .obRowsEnd samples => .of_event (fun _ => rfl) (reports_obRows · samples)
  | .readoutEnd quads lines => .of_timer (fun _ => rfl) fun x => (State.Reports.refl x).readoutOver quads lines
  | .lensMoving => .of_event (fun _ => rfl) fun x => (State.Reports.refl x).lensMoves
  | .lensSettled position => .of_event (fun _ => rfl) fun x => (State.Reports.refl x).lensSettles position
  | .lensAnswerTimeout => .of_timer (fun _ => rfl) fun x => (State.Reports.refl x).lensTimeout
  | .lostTimerExpiry => .of_timeTimer (fun _ => rfl) fun x => (State.Reports.refl x).loseSubject
  | .focusWaitExpiry => .of_timer (fun _ => rfl) fun x => (State.Reports.refl x).expireFocusWait
  | .inFocusAgeExpiry => .of_timeTimer (fun _ => rfl) fun x => (State.Reports.refl x).same (ageOut_link x)
  | .thumbPassEnd => .of_timer (fun _ => rfl) fun x => (State.Reports.refl x).passOver
  | .renderPassEnd => .of_timer (fun _ => rfl) fun x => (State.Reports.refl x).passOver
  | .cardInserted sl => .of_event (fun _ => rfl) fun x => (State.Reports.refl x).insertCard sl
  | .mountComplete sl capacity protect => .of_event (fun _ => rfl) fun x => (State.Reports.refl x).mountCard sl capacity protect
  | .mountFailed sl => .of_event (fun _ => rfl) fun x => (State.Reports.refl x).failMount sl
  | .mountTimeout sl => .of_timer (fun _ => rfl) fun x => (State.Reports.refl x).failMount sl
  | .cardRemoved sl => .of_event (fun _ => rfl) fun x => (State.Reports.refl x).removeCard sl
  | .extentWriteEnd sl success => .of_event (fun _ => rfl) fun x => (State.Reports.refl x).extentWritten sl success
  | .extentReadEnd sl success data => .of_event (fun _ => rfl) fun x => (State.Reports.refl x).extentRead sl success data
  | .carrierUp => .of_event (fun _ => rfl) fun x => (State.Reports.refl x).carrierUp
  | .carrierDown => .of_event (fun _ => rfl) fun x => (State.Reports.refl x).carrierDown
  | .relayFrameBad frame => .of_event (fun _ => rfl) fun x => (State.Reports.refl x).receiveFrame frame
  | .relayFrameDisregarded frame => .of_event (fun _ => rfl) fun x => (State.Reports.refl x).receiveFrame frame
  | .acceptReceived id start credit => .of_event (fun _ => rfl) fun x => (State.Reports.refl x).receive (.accept id start credit)
  | .refuseReceived id reason => .of_event (fun _ => rfl) fun x => (State.Reports.refl x).receive (.refuse id reason)
  | .ackReceived id index credit => .of_event (fun _ => rfl) fun x => (State.Reports.refl x).receive (.ack id index credit)
  | .nakReceived id index => .of_event (fun _ => rfl) fun x => (State.Reports.refl x).receive (.nak id index)
  | .beaconReceived counter status => .of_event (fun _ => rfl) fun x => (State.Reports.refl x).receive (.beacon counter status)
  | .pullReceived id k n priority => .of_event (fun _ => rfl) fun x => (State.Reports.refl x).receive (.pull id k n priority)
  | .beaconLoss => .of_timer (fun _ => rfl) fun x => (State.Reports.refl x).loseBeacons
  | .offerTimeout => .of_timer (fun _ => rfl) fun x => (State.Reports.refl x).offerAgain
  | .ackTimeout => .of_timer (fun _ => rfl) fun x => (State.Reports.refl x).goBack
  | .portFree => .of_event (fun _ => rfl) fun x => (State.Reports.refl x).portFree
  | .deadlineExpiry m => .of_timeTimer (fun _ => rfl) fun x => (State.Reports.refl x).expireItem m

theorem bounded_tick : KeepsBounded State.tick := by
  intro s h
  unfold State.tick; split
  · exact h
  · exact h

/-- Settles O9: a tick leaves the link alone, and every row keeps it within its sizes. -/
theorem linkStaysBounded : Obligations.LinkStaysBounded := by
  intro s t h stepped
  unfold step at stepped
  split at stepped
  next => exact Host.Outcome.next.inj stepped ▸ bounded_tick s h
  next c cs _ =>
    obtain ⟨u, done, bounded⟩ := staysBounded c (s.setPending cs) h
    exact Host.Outcome.next.inj (done.symm.trans stepped) ▸ bounded

end Sys2Proof.Machine.CommandLink
end

section
/-! PROOFS. A step with commands waiting: the front one is run (Section 0, Scope). -/

namespace Sys2Proof.Machine.EveryRow
open Sys2Proof

/-- The equation of `step` for a waiting command; the ticks of an empty queue are `idleStepPassesAMicrosecond`. -/
theorem step_of_pending_cons {s : State} {c : Instr} {cs : List Instr} (waiting : s.pending = c :: cs) :
    step s = exec c (s.setPending cs) := by
  simp only [step, waiting]

/-- Settles O1: `setPending` is the update the statement writes out. -/
theorem stepRunsTheFrontCommand : Obligations.StepRunsTheFrontCommand :=
  fun _ _ _ waiting => step_of_pending_cons waiting

end Sys2Proof.Machine.EveryRow
end
